-- ==== Sys2Proof/Word.lean ====
section
/-! DEFINITION. The plainest data of the HW2240: bytes, frame numbers, the two lines, pairs per line, and
tables of a fixed number of items. -/

namespace Sys2Proof

/-- A byte of a link frame (01, R1). -/
abbrev Byte := BitVec 8

/-- A 16-bit field of a link frame: Length, Link Count, Check, PAUSE time (01, R1). -/
abbrev Half := BitVec 16

/-- A frame number or Frame Counter value, 0..4095, wrapping (03, R42). -/
abbrev FrameNo := BitVec 12

/-- The two subscriptions, Line A and Line B (00, Terms). -/
inductive LineId where
  | a
  | b
  deriving DecidableEq, Repr, Inhabited

/-- The line that a rule calls "the other line". -/
def LineId.other : LineId → LineId
  | .a => .b
  | .b => .a

/-- A Line field of a header: 0 none, 1 Line A, 2 Line B (01, R1); 3 names no line. -/
def LineId.ofField (f : BitVec 2) : Option LineId :=
  if f = 1 then some .a else if f = 2 then some .b else none

/-- The Line field that names a line, or 0 for none. -/
def LineId.toField : Option LineId → BitVec 2
  | none => 0
  | some .a => 1
  | some .b => 2

/-- Two lines in the order in which the model takes them. -/
def LineId.all : List LineId := [.a, .b]

/-- One value for each line. -/
structure Pair (α : Type) where
  a : α
  b : α
  deriving DecidableEq, Repr, Inhabited

namespace Pair
variable {α : Type}

/-- The value of a line. -/
def get (p : Pair α) : LineId → α
  | .a => p.a
  | .b => p.b

/-- Change the value of one line and keep the other's. -/
def upd (p : Pair α) (l : LineId) (f : α → α) : Pair α :=
  match l with
  | .a => { p with a := f p.a }
  | .b => { p with b := f p.b }

/-- The same value for both lines. -/
def both (x : α) : Pair α := ⟨x, x⟩

end Pair

/-- A table of `n` items, indexed 0..n-1. -/
abbrev Tab (α : Type) (n : Nat) := Vector α n

namespace Tab
variable {α : Type} {n : Nat}

/-- The item at an index. -/
def get (t : Tab α n) (i : Fin n) : α := t[i.val]

/-- Change the item at an index and keep the others. -/
def upd (t : Tab α n) (i : Fin n) (f : α → α) : Tab α n := t.set i.val (f t[i.val]) i.isLt

/-- The same item everywhere. -/
def fill (x : α) : Tab α n := Vector.replicate n x

/-- Change every item. -/
def all (t : Tab α n) (f : α → α) : Tab α n := t.map f

end Tab

/-- The indexes 0..n-1 in rising order. -/
def indexes (n : Nat) : List (Fin n) := List.finRange n

/-- The indexes 0..n-1 in circular order, beginning with the index after `p` and ending with `p`. -/
def indexesAfter {n : Nat} (p : Fin n) : List (Fin n) :=
  (indexes n).drop (p.val + 1) ++ (indexes n).take (p.val + 1)

/-- A count that runs 0..65535 and stays at 65535 (R95, R108, R126, R149, R163, R179). -/
def satInc (n : Nat) : Nat := min (n + 1) 65535

/-- Hold a value within a range. -/
def clampNat (lo hi n : Nat) : Nat := max lo (min hi n)

/-- Hold a signed value within a range. -/
def clampInt (lo hi n : Int) : Int := max lo (min hi n)

/-- The first item that satisfies a test, removed. -/
def eraseFirst {α : Type} (p : α → Bool) : List α → List α
  | [] => []
  | x :: xs => if p x then xs else x :: eraseFirst p xs

/-- Join the tail of a store that keeps the newest `cap` items: a full store gives up its oldest. -/
def pushDropOldest {α : Type} (cap : Nat) (q : List α) (x : α) : List α :=
  (q ++ [x]).drop (q.length + 1 - cap)

end Sys2Proof
end

