-- ==== Sys2Proof/Syntax.lean ====
section
/-! DEFINITION. What the outside world can send: link frames with their named fields, the bodies of the COMMANDs,
and `Instr`, one constructor for each row of spec/opcode_table.json. -/

namespace Sys2Proof

/-- The kinds of a link frame (R1). -/
inductive Kind where
  | page | signal | sample | voice | radio | pause | command | reply | notice
  deriving DecidableEq, Repr, Inhabited

/-- The delivery classes of a host-bound frame (R1, section 1.6). -/
inductive Cls where
  | urgent | normal | bulk
  deriving DecidableEq, Repr, Inhabited

/-- A radio cell: a channel 0..4095 and a cell code 0..511. -/
structure Cell where
  channel : Nat
  code : Nat
  deriving DecidableEq, Repr, Inhabited

/-- The domain of a page record (chapter 5, PAGE); any other value is passed over (R88). -/
inductive Domain where
  | call | text | service
  | other (n : Nat)
  deriving DecidableEq, Repr, Inhabited

/-- One page record of a PAGE. -/
structure PageRecord where
  identity : BitVec 32
  domain : Domain
  deriving DecidableEq, Repr, Inhabited

/-- The message types of SIGNAL frames that the manual defines, in either direction, and any other type. -/
inductive MsgType where
  | cellInfo | callOffer | callAlert | callConnect | callClear | clearDone | holdAck | retrieveAck
  | moveOrder | reportConfig | textPart | textAck | textNack | textReceipt
  | callRequest | callAnswer | callHold | callRetrieve | pageAnswer | moveReport | moveDone | moveFail
  | undefined (n : Nat)
  deriving DecidableEq, Repr, Inhabited

/-- The cause of a CALL-CLEAR: a named cause, or a number 0..255 of the network's or the host's own (R109). -/
inductive Cause where
  | normal | busy | noAnswer | timeout | stopped | conflict
  | own (n : Byte)
  deriving DecidableEq, Repr, Inhabited

/-- The five radio statuses (R62). -/
inductive RadioStatus where
  | ready | done | syncFound | syncLost | linkRestart
  deriving DecidableEq, Repr, Inhabited

/-- The named fields that a payload holds, `none` for a field that it lacks. The manual gives no layout, so a
frame comes with this reading beside its bytes (log entry 4). Each unit reads the fields its chapter names. -/
structure Fields where
  /-- SIGNAL: the message type. -/
  mtype : MsgType := .undefined 0
  /-- PAGE, SAMPLE, CELL-INFO, MOVE-ORDER, SYNC-FOUND, SYNC-LOST: the cell. -/
  cell : Option Cell := none
  /-- PAGE, SAMPLE, CELL-INFO: the frame number. -/
  frameNo : Option FrameNo := none
  /-- PAGE: the whole page records. -/
  records : Option (List PageRecord) := none
  /-- Call messages and VOICE: the call reference. -/
  callRef : Option Nat := none
  /-- CALL-CLEAR: the cause. -/
  cause : Option Cause := none
  /-- CELL-INFO: barred flag, paging cycle, Qhyst. -/
  barred : Option Bool := none
  cycle : Option Nat := none
  qhyst : Option Nat := none
  /-- MOVE-ORDER: the sync deadline. -/
  deadline : Option Int := none
  /-- REPORT-CONFIG: Hys, TTT, report interval, report amount. -/
  hys : Option Int := none
  ttt : Option Int := none
  interval : Option Int := none
  amount : Option Int := none
  /-- TEXT-PART: sender reference, total parts, part number, payload. -/
  sender : Option Half := none
  total : Option Nat := none
  part : Option Nat := none
  text : Option (List Byte) := none
  /-- SAMPLE: detected, level in q, quality. -/
  detected : Option Bool := none
  level : Option Int := none
  quality : Option Int := none
  /-- VOICE: sequence number and speech. -/
  seq : Option Half := none
  voice : Option (List Byte) := none
  /-- RADIO: the status and its window number. -/
  status : Option RadioStatus := none
  window : Option Byte := none
  deriving DecidableEq, Repr, Inhabited

/-- A delimited frame as it reaches a port: its bytes, and the reading of its payload. -/
structure WireFrame where
  bytes : List Byte
  fields : Fields
  deriving DecidableEq, Repr, Inhabited

/-- Actions of dispatch rules and entry defaults (R24, R25). -/
inductive Action where
  | handle | deliver | both | drop | track | pass | jump
  deriving DecidableEq, Repr, Inhabited

/-- A match field of a dispatch rule: any value, or one. -/
inductive Match (α : Type) where
  | any
  | is (x : α)
  deriving DecidableEq, Repr, Inhabited

/-- The host power values a rule can name (R25). -/
inductive PowerMatch where
  | awake | asleepOrWaking
  deriving DecidableEq, Repr, Inhabited

/-- One Entry Table item as a Table Write gives it: `none` for a start of End, and `none` for a default action that
is no named action. -/
structure EntryWrite where
  start : Option Nat
  default : Option Action
  deriving DecidableEq, Repr, Inhabited

/-- One Dispatch Table item as a Table Write gives it; `none` in a match, action or class field is a value that
R25 does not list, and `none` in `missNext` is End. -/
structure RuleWrite where
  inUse : Bool
  kind : Option (Match Kind)
  mtype : Option (Match MsgType)
  line : Option (Match (Option LineId))
  power : Option (Match PowerMatch)
  action : Option Action
  jump : Nat
  missNext : Option Nat
  cls : Option Cls
  deriving DecidableEq, Repr, Inhabited

/-- Release types (R64). -/
inductive Release where
  | whenDone | onRequest
  deriving DecidableEq, Repr, Inhabited

/-- Arbitration modes (R64). -/
inductive ArbMode where
  | fixed | rotating | split | topOnly
  deriving DecidableEq, Repr, Inhabited

/-- One item of table 3: a class record (items 0..6) or the settings (item 7); `none` is a value not named. -/
inductive ClassItem where
  | cls (level : Nat) (release : Option Release) (fair : Bool)
  | settings (mode : Option ArbMode) (code : Nat)
  deriving DecidableEq, Repr, Inhabited

/-- The host-owned fields of a neighbour entry (R127). -/
structure HostFields where
  cell : Cell
  ownA : Bool
  ownB : Bool
  ocnA : Int
  ocnB : Int
  qoff : Int
  inIdle : Bool
  inCall : Bool
  deriving DecidableEq, Repr, Inhabited

/-- The port parameters (R6). -/
structure PortParams where
  pauseOn : Nat
  pauseOff : Nat
  pauseTime : Nat
  deriving DecidableEq, Repr, Inhabited

/-- The six wake enables (R164). -/
structure Enables where
  call : Bool
  text : Bool
  crossPage : Bool
  line : Bool
  fault : Bool
  forwarded : Bool
  deriving DecidableEq, Repr, Inhabited

/-- The Sleep Controller's settings (R164). -/
structure SleepSettings where
  idleDelay : Nat
  guardCode : Nat
  maxSleep : Nat
  responseTime : Nat
  watermark : Nat
  enables : Enables
  exitClears : Bool
  deriving DecidableEq, Repr, Inhabited

/-- Actions of faults (R182), and any other value a write may carry. -/
inductive FaultAction where
  | report | quiet | search | stop | stopLines | unlisted
  deriving DecidableEq, Repr, Inhabited

/-- One item of the condition settings table: a mask, and an action where the write gives one (R184). -/
structure CondItem where
  mask : Bool
  action : Option FaultAction
  deriving DecidableEq, Repr, Inhabited

/-- Kinds of an identity (R82). -/
inductive IdKind where
  | permanent | temporary
  deriving DecidableEq, Repr, Inhabited

/-- One Identity Table item as a Table Write gives it; `none` is a kind that is neither. -/
structure IdentityWrite where
  value : BitVec 32
  kind : Option IdKind
  valid : Bool
  deriving DecidableEq, Repr, Inhabited

/-- Idle modes of measurement (R131). -/
inductive IdleMode where
  | cycleAligned | interval | mixed
  deriving DecidableEq, Repr, Inhabited

/-- The value of one line parameter: a number, an idle mode, or a value that names nothing. -/
inductive ParamValue where
  | num (n : Nat)
  | mode (m : IdleMode)
  | unlisted
  deriving DecidableEq, Repr, Inhabited

/-- What an accepted COMMAND frame carries beside its body: its Link Count and Tag, and the Target and Index of
the payload head (section 1.3). -/
structure CmdHead where
  linkCount : Half
  tag : Byte
  target : Byte
  index : Half
  deriving DecidableEq, Repr, Inhabited

/-- A command's body: the fields the command needs, or a body shorter or longer than they take (R174). -/
inductive Body (α : Type) where
  | fits (x : α)
  | misfit
  deriving DecidableEq, Repr, Inhabited

/-- What makes a COMMAND unknown: a payload shorter than the head, a command number that is 0 or above 15 (R174),
or a Table Write of a table number outside 1..12 (R176). -/
inductive Unknown where
  | shortHead
  | number (n : Byte)
  | table (target : Byte)
  deriving DecidableEq, Repr, Inhabited

/-- The operations and events of the HW2240: one constructor for each row of spec/opcode_table.json. -/
inductive Instr where
  /-- RESET-N returns high, or start-up completes (R23). -/
  | coldReset
  /-- RESET-N goes low (R23). -/
  | resetNLow
  /-- A delimited frame arrives at the Modem Port (R5). -/
  | modemFrameIntake (f : WireFrame)
  /-- A READY that passed the intake checks; `none` if its window number is lacking (R72). -/
  | ready (linkCount : Half) (window : Option Byte)
  /-- A DONE that passed the intake checks (R75). -/
  | done (linkCount : Half) (window : Option Byte)
  /-- A SYNC-FOUND that passed the intake checks; `none` if its cell is lacking (R57). -/
  | syncFound (linkCount : Half) (cell : Option Cell)
  /-- A SYNC-LOST that passed the intake checks (R57). -/
  | syncLost (linkCount : Half) (cell : Option Cell)
  /-- A LINK-RESTART that passed the intake checks (R79). -/
  | linkRestart (linkCount : Half)
  /-- A delimited SIGNAL or VOICE frame arrives at the Host Port (R26). -/
  | hostFrameIntake (f : WireFrame)
  /-- A delimited PAUSE frame arrives at the Host Port (R19). -/
  | hostPause (bytes : List Byte)
  /-- The host pause timer expires (R19). -/
  | hostPauseExpiry
  /-- The repeat timer of the pause state expires (R8). -/
  | pauseRepeatExpiry
  /-- The Dispatcher takes and walks its next frame (R27). -/
  | dispatchWalk
  /-- The walk that a table write waited for has ended (R38). -/
  | dispatchWriteApply
  /-- The modem link is free (R12). -/
  | modemTransmitStart
  /-- The host link may start a frame (R20). -/
  | hostTransmitStart
  /-- The frame on the host link has been sent (R20). -/
  | hostTransmitEnd
  /-- A line's 10 ms frame boundary (R42). -/
  | frameBoundary (l : LineId)
  /-- The occasion watch's end count has reached 0 with the slot waiting (R86). -/
  | occasionEndMiss (l : LineId)
  /-- Hold counts of the Recent Page List have reached 0 (R94). -/
  | recentPageExpiry (l : LineId)
  /-- A line's radio-link timer expires (R57). -/
  | radioLinkExpiry (l : LineId)
  /-- A line's search retry timer expires (R49). -/
  | searchRetryExpiry (l : LineId)
  /-- The grant timer expires (R73). -/
  | grantTimeout
  /-- The window watch reaches length plus 2 (R76). -/
  | windowOverrun
  /-- Two boundaries have passed since SUSPEND (R74). -/
  | suspendLimit
  /-- A line's measurement timer expires (R134, R135). -/
  | measurementTimerExpiry (l : LineId)
  /-- A move's deadline timer expires (R156, R157, R159). -/
  | deadlineExpiry (l : LineId)
  /-- A Tuning or Confirming window has been Active for 256 boundaries (R153). -/
  | tuneExtension (l : LineId)
  /-- An entry's penalty timer expires (R146). -/
  | penaltyExpiry (i : Fin 24)
  /-- An entry's bar timer expires (R146). -/
  | barExpiry (i : Fin 24)
  /-- The lock hold limit is reached (R147). -/
  | lockHoldExpiry
  /-- The guard of an Offered record expires (R122). -/
  | offerGuardExpiry (t : Fin 4)
  /-- The guard of a Requested or Alerting record expires (R122). -/
  | requestGuardExpiry (t : Fin 4)
  /-- The guard of a Clearing record expires (R122). -/
  | clearingGuardExpiry (t : Fin 4)
  /-- An Assembly Record's timer expires (R105). -/
  | assemblyTimerExpiry (r : Fin 8)
  /-- The idle timer expires (R165). -/
  | idleTimerExpiry
  /-- The wake guard timer expires (R168). -/
  | wakeGuardExpiry
  /-- The max-sleep timer expires (R168). -/
  | maxSleepExpiry
  /-- The wake-response timer expires (R171). -/
  | wakeResponseExpiry
  /-- Identify (R175). -/
  | identify (h : CmdHead) (body : Body Unit)
  /-- Table Write of table 1; `walking` says that a walk has begun when it arrives (R37, R38, log entry 6). -/
  | entryTableWrite (h : CmdHead) (body : Body (List EntryWrite)) (walking : Bool)
  /-- Table Write of table 2 (R37, R38). -/
  | dispatchTableWrite (h : CmdHead) (body : Body (List RuleWrite)) (walking : Bool)
  /-- Table Write of table 3 (R64). -/
  | classTableWrite (h : CmdHead) (body : Body (List ClassItem))
  /-- Table Write of table 4 (R129). -/
  | neighbourTableWrite (h : CmdHead) (body : Body (List HostFields))
  /-- Table Write of table 5 (R131). -/
  | neighbourSettingsWrite (h : CmdHead) (body : Body (List Nat))
  /-- Table Write of table 6 (R6, R9). -/
  | portParametersWrite (h : CmdHead) (body : Body (List PortParams))
  /-- Table Write of table 7 (R164). -/
  | sleepSettingsWrite (h : CmdHead) (body : Body (List SleepSettings))
  /-- Table Write of table 8 (R184). -/
  | conditionSettingsWrite (h : CmdHead) (body : Body (List CondItem))
  /-- Table Write of table 9 or 10 (R82). -/
  | identityTableWrite (l : LineId) (h : CmdHead) (body : Body (List IdentityWrite))
  /-- Table Write of table 11 or 12 (R40). -/
  | lineParametersWrite (l : LineId) (h : CmdHead) (body : Body (List ParamValue))
  /-- Table Read: the body is the count of items (R176). -/
  | tableRead (h : CmdHead) (body : Body Nat)
  /-- Lock-Read: the Index is the entry (R147). -/
  | lockRead (h : CmdHead) (body : Body Unit)
  /-- Write-Unlock: the Index is the entry, the body its host fields (R148). -/
  | writeUnlock (h : CmdHead) (body : Body HostFields)
  /-- Line Start: the Target is the line (R43). -/
  | lineStart (h : CmdHead) (body : Body Unit)
  /-- Line Stop: the Target is the line (R54). -/
  | lineStop (h : CmdHead) (body : Body Unit)
  /-- Radio Borrow: a window length, 0 meaning 256, and the order bytes (R80). -/
  | radioBorrow (h : CmdHead) (body : Body (Byte × List Byte))
  /-- Sleep Enter (R166). -/
  | sleepEnter (h : CmdHead) (body : Body Unit)
  /-- Sleep Exit (R170). -/
  | sleepExit (h : CmdHead) (body : Body Unit)
  /-- Status Read: the Target is the section (R177). -/
  | statusRead (h : CmdHead) (body : Body Unit)
  /-- Conditions Read (R181). -/
  | conditionsRead (h : CmdHead) (body : Body Unit)
  /-- Conditions Clear (R183). -/
  | conditionsClear (h : CmdHead) (body : Body Unit)
  /-- Force Pause: the body is the pause time (R10). -/
  | forcePause (h : CmdHead) (body : Body Half)
  /-- Warm Reset (R178). -/
  | warmReset (h : CmdHead) (body : Body Unit)
  /-- A COMMAND that names no command (R174). -/
  | unknownCommand (h : CmdHead) (why : Unknown)
  /-- A delimited frame from the host that fails an intake check (R5). -/
  | hostLinkFrameError (bytes : List Byte)
  /-- The 1 ms deassertion of a re-pulse ends (R171). -/
  | wakeRepulseEnd
  deriving DecidableEq, Repr

end Sys2Proof
end

