-- ==== Sys2Proof/Config.lean ====
section
/-! DEFINITION. What the part fixes once for all: the capacities of its stores, fixed times, and what the
manual leaves open to the wire: the bytes of payloads and the numbers of notice codes that it does not give. -/

namespace Sys2Proof.Config

/-- The payload bytes of a frame the device makes. The manual gives named fields and no layout for every payload
but PAUSE and the heads of COMMAND and NOTICE (01, section 1.1), so the other bytes (of a NOTICE, those of its body), and
with them the Length field, the check and the number of Table Read items that fit, are uninterpreted (log entry 4). -/
opaque payloadBytes {α : Type} (payload : α) : List Byte

/-- The Code byte of a notice whose code the manual gives by name alone: CROSS-PAGE, CALL-STATE, LINE-STATE, MOVE-RESULT
and RESELECT-RESULT (section 1.3). It is uninterpreted, a function of the code's name (log entry 4). -/
opaque namedCode {α : Type} (code : α) : BitVec 8

/-- Longest payload and longest frame in bytes (R1). -/
def maxPayload : Nat := 3072
def maxFrame : Nat := 3080

/-- Capacities of the stores (R175 gathers them; R7, R11, R16, R21, R53, R94, R46). -/
def intakeCap : Nat := 32
def voiceLaneCap : Nat := 4
def orderLaneCap : Nat := 4
def deviceLaneCap : Nat := 8
def hostLaneCap : Nat := 8
def hostQueueCap : Nat := 48
def voiceBufferCap : Nat := 2
def holdCap : Nat := 4
def recentCap : Nat := 4
def foundCap : Nat := 8

/-- Product code and revision (R175). -/
def productCode : Nat := 2240
def revision : Nat := 1

/-- Longest walk (R30). -/
def maxHops : Nat := 16

/-- The clearing guard, in ms (R122). -/
def clearingGuardMs : Nat := 5000

/-- Boundaries of a Fallback phase (R153) and of the suspend limit (R74). -/
def fallbackFrames : Nat := 50
def suspendFrames : Nat := 2

/-- Boundaries by which a window may pass its length before the watch ends it (R76). -/
def overrunFrames : Nat := 2

/-- Camped rounds that reselection by ranking needs (R145). -/
def minCampedRounds : Nat := 4

end Sys2Proof.Config
end

