-- ==== Sys2Proof/Machine/State.lean ====
section
/-! DEFINITION. Every piece of state the manual gives the HW2240, block by block, as plain data, and its values
after Cold Reset. Where a field is the model's own (a fact the manual implies but does not name), its docstring
says so. -/

namespace Sys2Proof.Machine

/-- No command ends in a fault: no rule of the manual stops the part. -/
inductive Fault where
  deriving DecidableEq, Repr

/-- Raised by `exec` alone, for a row of the table that has no meaning yet (none has it). Safe. -/
inductive Refusal where
  | notModelled (mnemonic : String)
  deriving DecidableEq, Repr

/-! ### Frames -/

/-- The intake errors in the order of R5. -/
inductive IntakeError where
  | short | long | lengthMismatch | check | kind
  deriving DecidableEq, Repr, Inhabited

/-- An accepted frame: its header fields, its payload bytes, and the reading of the payload. The Length is the
number of payload bytes; Class and Link Count are not acted upon (R3). -/
structure LinkFrame where
  kind : Kind
  line : BitVec 2
  cls : BitVec 2
  tag : Byte
  data : List Byte
  fields : Fields
  deriving DecidableEq, Repr, Inhabited

/-- Names of radio orders (R62). -/
inductive OrderName where
  | listen | access | measure | search | tune | traffic | suspend | cancel | borrowOrder
  deriving DecidableEq, Repr, Inhabited

/-- Bodies of radio orders (R62). -/
inductive OrderBody where
  | none
  | cells (l : List Cell)
  | channels (l : List Nat)
  | cell (c : Cell)
  | bytes (l : List Byte)
  deriving DecidableEq, Repr, Inhabited

/-- A radio order (R62); a length of 0 means 256 frames. -/
structure RadioOrder where
  name : OrderName
  window : Byte
  length : Byte
  body : OrderBody
  deriving DecidableEq, Repr, Inhabited

/-- Causes of a TEXT-NACK (R101). -/
inductive NackCause where
  | invalid | memoryFull
  deriving DecidableEq, Repr, Inhabited

/-- Why a move gave up its target (R150). -/
inductive FallbackCause where
  | deadline | windowEnded | noGrant | targetBarred
  deriving DecidableEq, Repr, Inhabited

/-- The serving part of a MOVE-REPORT: the serving cell, its L_s and its quality (R143). -/
structure ReportServing where
  cell : Cell
  level : Int
  quality : Nat
  deriving DecidableEq, Repr, Inhabited

/-- One item of a MOVE-REPORT (R143). -/
structure ReportItem where
  cell : Cell
  level : Int
  quality : Nat
  lastFrame : Option FrameNo
  deriving DecidableEq, Repr, Inhabited

/-- What a modem-bound frame carries. -/
inductive ModemPayload where
  | forwarded (f : LinkFrame)
  | order (o : RadioOrder)
  | pause (frames : Half)
  | pageAnswer (identity : BitVec 32) (domain : Domain) (cell : Cell) (frameNo : FrameNo)
  | callClear (ref : Nat) (cause : Cause)
  | callHold (ref : Nat)
  | clearDone (ref : Nat)
  | textAck (sender : Half) (part : Nat)
  | textNack (sender : Half) (part : Nat) (cause : NackCause)
  | moveReport (serving : ReportServing) (items : List ReportItem)
  | moveDone (target : Cell)
  | moveFail (target : Cell) (cause : FallbackCause)
  deriving DecidableEq, Repr, Inhabited

/-- A frame in a lane of the Modem Transmit Selector or in an Uplink Hold, with the tag it goes with (R3, R11, R53, R124). -/
structure ModemFrame where
  line : BitVec 2
  cls : BitVec 2
  tag : Byte
  payload : ModemPayload
  deriving DecidableEq, Repr, Inhabited

/-- A frame whose transmission on the modem link has begun, as its header shows it, with the Link Count and check it carries
(R2, R3). -/
structure SentModem where
  frame : ModemFrame
  linkCount : Half
  check : Half
  deriving DecidableEq, Repr, Inhabited

/-! ### Modem Port -/

/-- The Modem Port with its Intake Queue, pause state and Transmit Selector (R3, R5 to R15). -/
structure ModemPort where
  params : PortParams
  intake : List LinkFrame
  /-- `none`: Not Pausing; otherwise Pausing with the repeat timer's remaining ms (R8). -/
  pausing : Option Nat
  voiceLane : List ModemFrame
  orderLane : List ModemFrame
  deviceLane : List ModemFrame
  hostLane : List ModemFrame
  /-- The frame whose transmission began last. -/
  sent : Option SentModem
  outCount : Half
  lastCount : Option Half
  lastError : Option IntakeError
  deriving DecidableEq, Repr, Inhabited

/-! ### Dispatcher -/

/-- An Entry Table entry (R24); a start of `none` is End. -/
structure EntryRec where
  start : Option (Fin 64)
  default : Action
  deriving DecidableEq, Repr, Inhabited

/-- A Dispatch Table rule (R25); a miss-next of `none` is End. -/
structure Rule where
  inUse : Bool
  kind : Match Kind
  mtype : Match MsgType
  line : Match (Option LineId)
  power : Match PowerMatch
  action : Action
  jump : Fin 64
  missNext : Option (Fin 64)
  cls : Cls
  deriving DecidableEq, Repr, Inhabited

/-- The overflow record (R30). -/
structure Overflow where
  entry : Fin 6
  start : Option (Fin 64)
  lastRule : Fin 64
  deriving DecidableEq, Repr, Inhabited

/-- The input taken from last (R26). -/
inductive Turn where
  | modem | host
  deriving DecidableEq, Repr, Inhabited

/-- The items of a checked table write (R37). -/
inductive DispatchWrite where
  | entries (first : Nat) (items : List EntryRec)
  | rules (first : Nat) (items : List Rule)
  deriving DecidableEq, Repr, Inhabited

/-- A checked write waiting for the walk in progress, with the Tag of its command (R38, R173). -/
structure WaitingWrite where
  tag : Byte
  write : DispatchWrite
  /-- The walk it waited for has ended (the model's own; log entry 6). -/
  walkEnded : Bool
  deriving DecidableEq, Repr, Inhabited

/-- Host power states (R164). -/
inductive Power where
  | awake | offered | asleep | waking
  deriving DecidableEq, Repr, Inhabited

/-- A walk in progress, which a command has met: the frame that the Dispatcher has taken from the Intake Queue, and the host power
that the walk tests, as it stood when the walk began (R27; log entry 6). -/
structure WalkBegun where
  frame : LinkFrame
  power : Power
  deriving DecidableEq, Repr, Inhabited

/-- The Dispatcher (R24 to R30, R38). -/
structure Dispatcher where
  entries : Tab EntryRec 6
  rules : Tab Rule 64
  lastTurn : Turn
  overflow : Option Overflow
  write : Option WaitingWrite
  /-- The walk in progress, which ends at its DISPATCH_WALK (R27, R38). -/
  walking : Option WalkBegun
  deriving DecidableEq, Repr, Inhabited

/-! ### Lines -/

/-- Line states (R39). -/
inductive LineState where
  | off | searching | camped | connected | moving | lost | stopping
  deriving DecidableEq, Repr, Inhabited

/-- Loss causes (R39). -/
inductive LossCause where
  | sync | move | restart
  deriving DecidableEq, Repr, Inhabited

/-- A timer that counts a line's frame boundaries and may be frozen. -/
inductive FrameTimer where
  | stopped
  | running (left : Nat)
  | frozen (left : Nat)
  deriving DecidableEq, Repr, Inhabited

/-- An item of the found list (R46). -/
structure FoundCell where
  cell : Cell
  entry : Option (Fin 24)
  barred : Bool
  cycle : Nat
  qhyst : Nat
  frameNo : FrameNo
  /-- The line's Frame Counter at the CELL-INFO's arrival. -/
  counter : FrameNo
  level : Option Int
  deriving DecidableEq, Repr, Inhabited

/-- Network report overrides (R39, R144). -/
structure Overrides where
  hys : Nat
  ttt : Nat
  interval : Nat
  amount : Nat
  deriving DecidableEq, Repr, Inhabited

/-- The parameters of a line, items 0..26 of its parameter table (R40, R131, R153, R176). -/
structure LineParams where
  requestedCycle : Nat
  listenWindow : Nat
  listenLead : Nat
  accessWindow : Nat
  searchWindow : Nat
  searchInterval : Nat
  radioLinkTimeout : Nat
  offerGuard : Nat
  requestGuard : Nat
  assemblyTimeout : Nat
  idleMode : IdleMode
  intervalM : Nat
  mixedThreshold : Nat
  intervalG : Nat
  cellsW : Nat
  measureWindow : Nat
  coeffK : Nat
  missLimit : Nat
  hys : Nat
  ttt : Nat
  reportInterval : Nat
  reportAmount : Nat
  tresel : Nat
  penaltyP : Nat
  penaltyTime : Nat
  barTime : Nat
  reselectDeadline : Nat
  deriving DecidableEq, Repr, Inhabited

/-- A line's record in the Line Table (R39), with its Frame Counter (R42), Uplink Hold (R53) and parameters. -/
structure LineRec where
  state : LineState
  serving : Option (Fin 24)
  servingBarred : Bool
  cycle : Option Nat
  qhyst : Option Nat
  campedRounds : Nat
  searchPos : Fin 24
  found : List FoundCell
  noServiceSent : Bool
  /-- Search retry timer, ms. -/
  retry : Option Nat
  radioLink : FrameTimer
  deferredStop : Bool
  lossCause : Option LossCause
  overrides : Option Overrides
  frame : FrameNo
  hold : List ModemFrame
  params : LineParams
  /-- The channel list of the line's search request (R45). -/
  searchList : List Nat
  /-- The model's own: a SEARCH window that outlived a stop chooses nothing (R55; log entry 17). -/
  staleSearch : Bool
  /-- The model's own: Hold frames discarded, for the LINE-STATE notice still to come (R53, R60; log entry 16). -/
  holdLost : Nat
  deriving DecidableEq, Repr, Inhabited

/-! ### Radio Time Arbiter -/

/-- The seven classes of radio use (R62). -/
inductive SlotClass where
  | move | traffic | paging | access | measure | search | borrow
  deriving DecidableEq, Repr, Inhabited

/-- What a slot that does not hold the radio wants (R63). -/
inductive Want where
  | idle | pending | deferred
  deriving DecidableEq, Repr, Inhabited

/-- The states in which a slot holds the radio (R63). -/
inductive HoldPhase where
  | granted | active | yielding
  deriving DecidableEq, Repr, Inhabited

/-- The six states of a slot (R63). -/
inductive SlotState where
  | idle | pending | deferred | granted | active | yielding
  deriving DecidableEq, Repr, Inhabited

/-- What a Request Slot keeps whether or not it holds the radio (R63). -/
structure Slot where
  /-- Idle while the slot holds the radio. -/
  want : Want
  repeated : Bool
  served : Bool
  /-- TRAFFIC is standing (R66). -/
  standing : Bool
  /-- It became Pending while the present holder was Granted (R72). -/
  pended : Bool
  deriving DecidableEq, Repr, Inhabited

/-- The slot that holds the radio, with what runs while it holds it (R63, R71, R72, R74, R76). -/
structure Holder where
  slot : Fin 13
  phase : HoldPhase
  release : Release
  window : Byte
  /-- Window length in frames, 1..256. -/
  length : Nat
  /-- Grant timer, ms, while Granted. -/
  grantTimer : Option Nat
  /-- Boundaries of the slot's line since READY, or since SUSPEND in Yielding. -/
  count : Nat
  /-- Released by its owner while Granted. -/
  released : Bool
  deriving DecidableEq, Repr, Inhabited

/-- A Class Table record (R64). -/
structure ClassRec where
  level : Nat
  release : Release
  fair : Bool
  deriving DecidableEq, Repr, Inhabited

/-- A Radio Borrow that has not been answered (R80). -/
structure Borrow where
  tag : Byte
  length : Byte
  bytes : List Byte
  deriving DecidableEq, Repr, Inhabited

/-- The Radio Time Arbiter (R63, R64, R80). -/
structure Arbiter where
  slots : Tab Slot 13
  holder : Option Holder
  nextWindow : Byte
  pointer : Fin 13
  classes : Tab ClassRec 7
  mode : ArbMode
  code : Nat
  borrow : Option Borrow
  deriving DecidableEq, Repr, Inhabited

/-! ### Paging Unit -/

/-- An Identity Table entry (R82). -/
structure Identity where
  value : BitVec 32
  kind : IdKind
  valid : Bool
  deriving DecidableEq, Repr, Inhabited

/-- Paging states (R83). -/
inductive PagingState where
  | off | watching | suspended
  deriving DecidableEq, Repr, Inhabited

/-- The occasion watch (R84). -/
structure Watch where
  toOccasion : Nat
  toEnd : Nat
  granted : Bool
  deriving DecidableEq, Repr, Inhabited

/-- Outcomes of a recent page (R94). -/
inductive PageOutcome where
  | answered | cross | service
  deriving DecidableEq, Repr, Inhabited

/-- An item of the Recent Page List (R94). -/
structure RecentPage where
  identity : BitVec 32
  domain : Domain
  outcome : PageOutcome
  left : Nat
  deriving DecidableEq, Repr, Inhabited

/-- The paging counts (R95). -/
structure PagingCounts where
  requested : Nat
  missed : Nat
  answered : Nat
  answersLost : Nat
  absorbed : Nat
  crossReported : Nat
  deriving DecidableEq, Repr, Inhabited

/-- A line's part of the Paging Unit (R82 to R95). -/
structure PagingRec where
  identities : Tab Identity 4
  state : PagingState
  primary : Option (Fin 4)
  watch : Option Watch
  recent : List RecentPage
  counts : PagingCounts
  deriving DecidableEq, Repr, Inhabited

/-! ### Text Assembly Unit -/

/-- States of an Assembly Record that is not Free (R97). -/
inductive TextState where
  | collecting | complete
  deriving DecidableEq, Repr, Inhabited

/-- An Assembly Record that is not Free (R97). `parts` pairs each received part number with its slot, in
part-number order: it is both the received parts and the slot list. -/
structure TextRec where
  state : TextState
  line : LineId
  sender : Half
  total : Nat
  parts : List (Nat × Fin 48)
  /-- Time since the record was made, ms; the age is this in whole seconds. -/
  ageMs : Nat
  /-- Assembly timer, ms. -/
  timer : Option Nat
  deriving DecidableEq, Repr, Inhabited

/-- A held slot of the Part Pool: its record and its part's payload (R96). -/
structure PoolSlot where
  owner : Fin 8
  bytes : List Byte
  deriving DecidableEq, Repr, Inhabited

/-- The text counts (R108). -/
structure TextCounts where
  stored : Nat
  duplicates : Nat
  nacksInvalid : Nat
  nacksFull : Nat
  answersLost : Nat
  refusedByState : Nat
  whole : Nat
  partials : Nat
  lost : Nat
  uplink : Nat
  deriving DecidableEq, Repr, Inhabited

/-- The Text Assembly Unit (R96, R97, R108). -/
structure TextUnit where
  pool : Tab (Option PoolSlot) 48
  recs : Tab (Option TextRec) 8
  order : List (Fin 8)
  counts : Pair TextCounts
  deriving DecidableEq, Repr, Inhabited

/-! ### Call Unit -/

/-- Directions of a call (R109). -/
inductive Direction where
  | incoming | outgoing
  deriving DecidableEq, Repr, Inhabited

/-- States of a call record that is not Free (R109). -/
inductive CallState where
  | offered | requested | alerting | active | held | clearing
  deriving DecidableEq, Repr, Inhabited

/-- A call record's guard timer, ms (R109, R122). -/
inductive Guard where
  | stopped
  | running (left : Nat)
  | frozen (left : Nat)
  deriving DecidableEq, Repr, Inhabited

/-- Who began a clearing (R109). -/
inductive Origin where
  | network | host | device
  deriving DecidableEq, Repr, Inhabited

/-- Causes of a CALL-STATE notice (R110). -/
inductive CallNoticeCause where
  | clearing (c : Cause)
  | done | guard | crossed | radioLoss
  | full | radioBusy | noService | referenceInUse | noCall | wrongState
  deriving DecidableEq, Repr, Inhabited

/-- A call record that is not Free (R109). -/
structure CallRec where
  line : LineId
  dir : Direction
  ref : Nat
  state : CallState
  guard : Guard
  clearing : Option (Cause × Origin)
  /-- Release pending, with the cause the pending event would have given (R111). -/
  releasePending : Option CallNoticeCause
  deriving DecidableEq, Repr, Inhabited

/-- The call counts (R126). -/
structure CallCounts where
  offersTaken : Nat
  offersDiscarded : Nat
  offersRejected : Nat
  duplicates : Nat
  requestsTaken : Nat
  requestsRefused : Nat
  stray : Nat
  unmatched : Nat
  clearsLost : Nat
  holdsLost : Nat
  voiceDown : Nat
  voiceUp : Nat
  voiceDiscarded : Nat
  deriving DecidableEq, Repr, Inhabited

/-- The Call Unit (R109, R126). -/
structure CallUnit where
  recs : Tab (Option CallRec) 4
  counts : Pair CallCounts
  deriving DecidableEq, Repr, Inhabited

/-! ### Measurement Unit -/

/-- States of a neighbour entry (R127). -/
inductive EntryState where
  | free | listed | measured | stale | barred
  deriving DecidableEq, Repr, Inhabited

/-- The per-line device fields of a neighbour entry (R127). -/
structure Trigger where
  count : Nat
  triggered : Bool
  run : Nat
  deriving DecidableEq, Repr, Inhabited

/-- A neighbour entry (R127). The lock and the parked sample stand in `MeasUnit.lock`. -/
structure Entry where
  cell : Cell
  own : Pair Bool
  ocn : Pair Int
  qoff : Int
  inIdle : Bool
  inCall : Bool
  state : EntryState
  servingFor : Pair Bool
  /-- Filter value F, fine units. -/
  filter : Option Int
  /-- Reported level L, q. -/
  level : Option Int
  quality : Option Nat
  misses : Nat
  lastFrame : Option FrameNo
  /-- Penalty and bar timers, ms. -/
  penalty : Option Nat
  bar : Option Nat
  trig : Pair Trigger
  deriving DecidableEq, Repr, Inhabited

/-- A parked sample, with the cell and line it came for (R137, R147). -/
structure Parked where
  cell : Cell
  line : LineId
  frameNo : FrameNo
  detected : Bool
  level : Int
  quality : Nat
  deriving DecidableEq, Repr, Inhabited

/-- The one lock (R147). -/
structure Lock where
  entry : Fin 24
  /-- Hold-limit timer, ms. -/
  left : Nat
  parked : Option Parked
  deriving DecidableEq, Repr, Inhabited

/-- How a line's MEASURE windows are scheduled (R134, R135). -/
inductive Schedule where
  | none | cycleAligned | interval | connected
  deriving DecidableEq, Repr, Inhabited

/-- The measurement counts (R149). -/
structure MeasCounts where
  applied : Nat
  unmatched : Nat
  misses : Nat
  rounds : Nat
  reportsSent : Nat
  reportsLost : Nat
  reselections : Nat
  splits : Nat
  deriving DecidableEq, Repr, Inhabited

/-- A line's part of the Measurement Unit (R133 to R136, R142, R149). -/
structure MeasLine where
  /-- The current round: each member with its mark. -/
  round : Option (List (Fin 24 × Bool))
  pos : Fin 24
  /-- The measure position before the order in force (R136). -/
  prevPos : Fin 24
  timer : FrameTimer
  sched : Schedule
  reportsSent : Nat
  roundsSince : Nat
  counts : MeasCounts
  deriving DecidableEq, Repr, Inhabited

/-- The Measurement Unit (R127, R131, R147, R149). -/
structure MeasUnit where
  entries : Tab Entry 24
  lockHold : Nat
  lock : Option Lock
  lines : Pair MeasLine
  deriving DecidableEq, Repr, Inhabited

/-! ### Move Unit -/

inductive MoveKind where
  | handover | reselect
  deriving DecidableEq, Repr, Inhabited

inductive MoveTrigger where
  | order | ranking | barredServing
  deriving DecidableEq, Repr, Inhabited

inductive MovePhase where
  | waitingGrant | tuning | confirming | fallback
  deriving DecidableEq, Repr, Inhabited

/-- A cell that an eviction removed, with its owners (R152). -/
structure Evicted where
  cell : Cell
  own : Pair Bool
  deriving DecidableEq, Repr, Inhabited

/-- A move record (R150). `deadline` holds the deadline timer's remaining frames; whether it runs or is frozen is the MOVE
slot's state, which has its one home in the arbiter (R153), and is read by `deadlineTimer`. -/
structure MoveRec where
  kind : MoveKind
  trigger : MoveTrigger
  phase : MovePhase
  target : Cell
  targetEntry : Fin 24
  oldEntry : Fin 24
  oldCell : Cell
  deadline : Nat
  extended : Bool
  evicted : Option Evicted
  voiceDiscarded : Nat
  fallbackCause : Option FallbackCause
  /-- The model's own: a barred CELL-INFO taken in Granted, for the READY to act on (R156; log entry 20). -/
  barredAtReady : Bool
  deriving DecidableEq, Repr, Inhabited

/-- The move counts (R163). -/
structure MoveCounts where
  handovers : Nat
  succeeded : Nat
  fellBack : Nat
  handoversLost : Nat
  reselSucceeded : Nat
  reselFailed : Nat
  reselLost : Nat
  reselAbandoned : Nat
  ordersRefused : Nat
  evictions : Nat
  extensions : Nat
  messagesLost : Nat
  deriving DecidableEq, Repr, Inhabited

/-- A line's part of the Move Unit. -/
structure MoveLine where
  record : Option MoveRec
  counts : MoveCounts
  deriving DecidableEq, Repr, Inhabited

/-! ### Sleep Controller -/

/-- Entry pending (R164, R166): clear, or set with its REPLY waiting or in transmission (log entry 29). -/
inductive EntryPending where
  | clear | waiting | sending
  deriving DecidableEq, Repr, Inhabited

/-- Wake reasons (R164). -/
inductive WakeReason where
  | call | text | crossPage | line | fault | pressure | timer | forwarded
  deriving DecidableEq, Repr, Inhabited

/-- The last-sleep record (R164). -/
structure LastSleep where
  reasons : List WakeReason
  repulses : Nat
  asleepMs : Nat
  deriving DecidableEq, Repr, Inhabited

/-- The Sleep Controller (R164). Timers are in ms. -/
structure SleepRec where
  power : Power
  entry : EntryPending
  idle : Option Nat
  guard : Option Nat
  maxSleep : Option Nat
  response : Option Nat
  /-- A re-pulse under way: ms of deassertion left (R171). -/
  repulse : Option Nat
  repulses : Nat
  reasons : List WakeReason
  lastSleep : Option LastSleep
  /-- Time since the entry into Asleep (R169). -/
  asleepMs : Nat
  wake : Bool
  settings : SleepSettings
  deriving DecidableEq, Repr, Inhabited

/-! ### Condition Monitor -/

/-- The fifteen conditions (section 11.3). -/
inductive Cond where
  | w1 | w2 | w3 | w4 | w5 | w6 | w7 | w8 | w9 | f1 | f2 | f3 | f4 | f5 | f6
  deriving DecidableEq, Repr, Inhabited

/-- A condition's record (R179). -/
structure CondRec where
  /-- Raised, or Latched. -/
  on : Bool
  events : Nat
  /-- Line and subject of the last event. -/
  last : Option (BitVec 2 × Nat)
  mask : Bool
  /-- The action of a fault; Report, unused, for a warning. -/
  action : FaultAction
  deriving DecidableEq, Repr, Inhabited

/-! ### Replies and notices -/

/-- Refusal reasons of a REPLY (section 1.3). -/
inductive Reason where
  | busy | lineActive | duplicate | serving | locked | range | unknown
  deriving DecidableEq, Repr, Inhabited

inductive ResetKind where
  | cold | warm
  deriving DecidableEq, Repr, Inhabited

/-- How a Radio Borrow ended (R80). -/
inductive BorrowEnd where
  | ended | overrun | noReady | withdrawn
  deriving DecidableEq, Repr, Inhabited

/-- Every host and device field of a neighbour entry (R127, R129, R147). -/
structure EntryView where
  entry : Entry
  locked : Bool
  parked : Option Parked
  deriving DecidableEq, Repr, Inhabited

/-- One item that Table Read returns (R176). -/
inductive TableItem where
  | entry (e : EntryRec)
  | rule (r : Rule)
  | cls (c : ClassRec)
  | settings (mode : ArbMode) (code : Nat)
  | neighbour (e : EntryView)
  | lockHold (ms : Nat)
  | ports (p : PortParams)
  | sleep (s : SleepSettings)
  | cond (mask : Bool) (action : Option FaultAction)
  | identity (i : Identity)
  | param (v : ParamValue)
  deriving DecidableEq, Repr, Inhabited

/-- What Status Read reports of a line (R177). -/
structure LineStatus where
  line : LineRec
  holdFill : Nat
  paging : PagingRec
  offset : Option Nat
  requestFrame : Option Nat
  text : TextCounts
  calls : CallCounts
  measSet : List (Fin 24)
  meas : MeasLine
  move : MoveLine
  /-- The deadline timer of a present move record: its remaining frames, running or frozen (R150). -/
  deadline : Option FrameTimer
  /-- The lock as it stood when the command was taken, where this section reports it. -/
  lock : Option (Fin 24 × Nat)
  /-- This command split it. -/
  split : Bool
  deriving DecidableEq, Repr, Inhabited

/-- What Status Read reports of a port. -/
structure PortStatus where
  outCount : Half
  lastCount : Option Half
  lastError : Option IntakeError
  deriving DecidableEq, Repr, Inhabited

/-- Status Read section 3 (R177). -/
structure PortsStatus where
  modem : PortStatus
  host : PortStatus
  intakeFill : Nat
  pausing : Option Nat
  urgent : Nat
  normal : Nat
  bulk : Nat
  voiceFill : Nat
  voiceLane : Nat
  orderLane : Nat
  deviceLane : Nat
  hostLane : Nat
  pauseTimer : Option Nat
  overflow : Option Overflow
  deriving DecidableEq, Repr, Inhabited

/-- A row of the assembly list as Status Read reports it (R108). -/
structure TextRow where
  number : Fin 8
  state : TextState
  line : LineId
  sender : Half
  total : Nat
  received : List Nat
  age : Nat
  timer : Option Nat
  deriving DecidableEq, Repr, Inhabited

/-- A condition as Conditions Read reports it (R181). -/
structure CondRow where
  on : Bool
  events : Nat
  last : Option (BitVec 2 × Nat)
  deriving DecidableEq, Repr, Inhabited

/-- The sections of Status Read (R177). -/
inductive StatusData where
  | line (s : LineStatus)
  | ports (s : PortsStatus)
  | radio (slots : List SlotState) (marks : List Slot) (holder : Option Holder) (next : Byte) (pointer : Fin 13)
      (mode : ArbMode)
  | texts (free : Nat) (rows : List TextRow)
  | calls (recs : List (Option CallRec))
  | sleep (s : SleepRec)
  | conditions (rows : List CondRow)
  deriving DecidableEq, Repr, Inhabited

/-- The data of a REPLY Done with data. -/
inductive ReplyData where
  | identify (product revision : Nat) (capacities : List Nat) (last : ResetKind)
  | items (count : Nat) (items : List TableItem)
  | entry (e : EntryView)
  | borrow (how : BorrowEnd)
  | lastSleep (r : Option LastSleep)
  | status (s : StatusData)
  | conditions (rows : List CondRow)
  | faults (latched : List Cond)
  deriving DecidableEq, Repr, Inhabited

inductive ReplyOutcome where
  | done
  | data (d : ReplyData)
  | refused (r : Reason)
  deriving DecidableEq, Repr, Inhabited

/-- A REPLY's payload: the command number it answers, and its outcome (section 1.3). -/
structure Reply where
  command : Byte
  outcome : ReplyOutcome
  deriving DecidableEq, Repr, Inhabited

inductive CrossCode where
  | callPage | offer
  deriving DecidableEq, Repr, Inhabited

inductive TextCode where
  | whole | partialText
  deriving DecidableEq, Repr, Inhabited

inductive TextCause where
  | complete | timeout | lineStopped
  deriving DecidableEq, Repr, Inhabited

/-- Codes of CALL-STATE (R110). -/
inductive CallCode where
  | offered | requested | alerting | active | held | clearing | released | rejected | refused
  deriving DecidableEq, Repr, Inhabited

/-- Codes of LINE-STATE with their bodies (R60, R83). -/
inductive LineNotice where
  | noService (found holdLost : Nat)
  | camped (cell : Cell) (cycle : Nat)
  | lost (cause : LossCause) (holdLost : Nat)
  | off (holdLost : Nat)
  | refused (state : LineState) (mtype : MsgType) (tag : Byte)
  | holdFull (mtype : MsgType) (tag : Byte)
  | pagingOff (valid : Nat)
  deriving DecidableEq, Repr, Inhabited

/-- The names of the codes of LINE-STATE, without their bodies (R60, R83). -/
inductive LineCode where
  | noService | camped | lost | off | refused | holdFull | pagingOff
  deriving DecidableEq, Repr, Inhabited

inductive MoveCode where
  | success | failed | lost | abandoned
  deriving DecidableEq, Repr, Inhabited

/-- Causes of MOVE-RESULT and RESELECT-RESULT (R162). -/
inductive MoveCause where
  | reached
  | fallback (c : FallbackCause)
  | restart | oldCellLost | call
  deriving DecidableEq, Repr, Inhabited

/-- What a NOTICE carries; the constructor is its kind. -/
inductive NoticeBody where
  | crossPage (code : CrossCode) (identity : BitVec 32) (other : LineState) (cell : Cell) (busySent : Bool)
  | text (code : TextCode) (cause : TextCause) (total received : Nat) (missing : List Nat) (age : Nat)
      (text : List Byte)
  | callState (code : CallCode) (dir : Option Direction) (ref : Nat) (prev : Option CallState)
      (cause : Option CallNoticeCause) (refused : Option (MsgType × Byte))
  | lineState (hasServing : Bool) (code : LineNotice)
  | moveResult (code : MoveCode) (target old : Cell) (cause : MoveCause) (voice : Nat) (evicted : Option Evicted)
  | reselectResult (code : MoveCode) (trigger : MoveTrigger) (target old : Cell) (cause : MoveCause)
      (barApplied : Bool) (evicted : Option Evicted)
  | sleepOffer (guardCode maxSleep : Nat) (enables : Enables)
  | condition (c : Cond) (events : Nat) (action : Option FaultAction)
  | servicePage (identity : BitVec 32) (cell : Cell) (frameNo : FrameNo)
  deriving DecidableEq, Repr, Inhabited

/-- A notice code that the manual gives by name alone (section 1.3; R60, R91, R110, R162). -/
inductive NamedCode where
  | crossPage (c : CrossCode)
  | callState (c : CallCode)
  | lineState (c : LineCode)
  | moveResult (c : MoveCode)
  | reselectResult (c : MoveCode)
  deriving DecidableEq, Repr, Inhabited

/-- A NOTICE's Subject and body (section 1.3). -/
structure Notice where
  subject : Nat
  body : NoticeBody
  deriving DecidableEq, Repr, Inhabited

/-- What a host-bound frame carries. -/
inductive HostPayload where
  | delivered (f : LinkFrame)
  | reply (r : Reply)
  | notice (n : Notice)
  deriving DecidableEq, Repr, Inhabited

/-- A host-bound frame (R3, R16). -/
structure HostFrame where
  line : BitVec 2
  cls : Cls
  tag : Byte
  payload : HostPayload
  deriving DecidableEq, Repr, Inhabited

/-- A frame in transmission on the host link, with the Link Count and check it carries (R2, R3). -/
structure SentHost where
  frame : HostFrame
  linkCount : Half
  check : Half
  deriving DecidableEq, Repr, Inhabited

/-! ### Host Port -/

/-- The Host Port (R3, R16 to R22, R26, R173). -/
structure HostPort where
  queue : List HostFrame
  seq : Byte
  voice : List HostFrame
  /-- Host pause timer, ms. -/
  pauseTimer : Option Nat
  sending : Option SentHost
  outCount : Half
  lastCount : Option Half
  lastError : Option IntakeError
  /-- The host input place. -/
  input : Option LinkFrame
  /-- Frames on the host link that the port has not taken in, oldest first (R26, R173; log entry 7). -/
  link : List Instr
  deriving DecidableEq, Repr, Inhabited

/-! ### The part -/

/-- The whole part but for the queue of waiting commands. -/
structure Device where
  /-- RESET-N is low (R23). -/
  inReset : Bool
  /-- The last reset taken (R175). -/
  lastReset : ResetKind
  modem : ModemPort
  host : HostPort
  disp : Dispatcher
  lines : Pair LineRec
  arb : Arbiter
  paging : Pair PagingRec
  text : TextUnit
  calls : CallUnit
  meas : MeasUnit
  move : Pair MoveLine
  sleep : SleepRec
  conds : Tab CondRec 15
  deriving DecidableEq, Repr, Inhabited

/-- The part, and the commands that wait, first in, first out. -/
structure State where
  dev : Device
  pending : List Instr
  deriving DecidableEq, Repr, Inhabited

/-! ### Values after Cold Reset -/

/-- R6. -/
def portDefaults : PortParams := ⟨24, 8, 20⟩

/-- R6 to R11, R3. -/
def ModemPort.reset : ModemPort :=
  { params := portDefaults, intake := [], pausing := none, voiceLane := [], orderLane := [], deviceLane := [],
    hostLane := [], sent := none, outCount := 0, lastCount := none, lastError := none }

/-- R16, R19, R21, R26. -/
def HostPort.reset : HostPort :=
  { queue := [], seq := 0, voice := [], pauseTimer := none, sending := none, outCount := 0, lastCount := none,
    lastError := none, input := none, link := [] }

/-- R25: a rule not in use. -/
def Rule.unused : Rule :=
  { inUse := false, kind := .any, mtype := .any, line := .any, power := .any, action := .drop, jump := 0,
    missNext := none, cls := .normal }

/-- R24: the defaults of entries 0..5. -/
def entryDefaults : Tab EntryRec 6 :=
  #v[⟨none, .handle⟩, ⟨none, .both⟩, ⟨none, .handle⟩, ⟨none, .handle⟩, ⟨none, .track⟩, ⟨none, .track⟩]

/-- R24, R25, R26, R30. -/
def Dispatcher.reset : Dispatcher :=
  { entries := entryDefaults, rules := Tab.fill .unused, lastTurn := .host, overflow := none, write := none
    walking := none }

/-- R40, R131, R153. -/
def LineParams.default : LineParams :=
  { requestedCycle := 256, listenWindow := 2, listenLead := 2, accessWindow := 20, searchWindow := 50,
    searchInterval := 10, radioLinkTimeout := 200, offerGuard := 20, requestGuard := 30, assemblyTimeout := 120,
    idleMode := .mixed, intervalM := 32, mixedThreshold := 128, intervalG := 10, cellsW := 4, measureWindow := 4,
    coeffK := 2, missLimit := 3, hys := 12, ttt := 2, reportInterval := 4, reportAmount := 4, tresel := 3,
    penaltyP := 20, penaltyTime := 10, barTime := 30, reselectDeadline := 100 }

/-- R39, R42, R53: a line's record at either reset, with the parameters it then has. -/
def LineRec.reset (params : LineParams) : LineRec :=
  { state := .off, serving := none, servingBarred := false, cycle := none, qhyst := none, campedRounds := 0,
    searchPos := 23, found := [], noServiceSent := false, retry := none, radioLink := .stopped,
    deferredStop := false, lossCause := none, overrides := none, frame := 0, hold := [], params := params,
    searchList := [], staleSearch := false, holdLost := 0 }

/-- R63. -/
def Slot.reset : Slot :=
  { want := .idle, repeated := false, served := false, standing := false, pended := false }

/-- R64. -/
def classDefaults : Tab ClassRec 7 :=
  #v[⟨3, .whenDone, false⟩, ⟨1, .onRequest, false⟩, ⟨2, .whenDone, true⟩, ⟨2, .whenDone, false⟩,
     ⟨1, .whenDone, true⟩, ⟨0, .whenDone, false⟩, ⟨0, .whenDone, false⟩]

/-- R63, R64, R81. -/
def Arbiter.reset : Arbiter :=
  { slots := Tab.fill .reset, holder := none, nextWindow := 0, pointer := 12, classes := classDefaults, mode := .fixed,
    code := 4, borrow := none }

/-- R82. -/
def Identity.empty : Identity := ⟨0, .permanent, false⟩

/-- R83, R94, R95: a line's paging at either reset, with the identities it then has. -/
def PagingRec.reset (ids : Tab Identity 4) : PagingRec :=
  { identities := ids, state := .off, primary := none, watch := none, recent := [], counts := ⟨0, 0, 0, 0, 0, 0⟩ }

/-- R96, R97, R108. -/
def TextUnit.reset : TextUnit :=
  { pool := Tab.fill none, recs := Tab.fill none, order := [],
    counts := Pair.both ⟨0, 0, 0, 0, 0, 0, 0, 0, 0, 0⟩ }

/-- R109, R126. -/
def CallUnit.reset : CallUnit :=
  { recs := Tab.fill none, counts := Pair.both ⟨0, 0, 0, 0, 0, 0, 0, 0, 0, 0, 0, 0, 0⟩ }

/-- R127. -/
def Entry.free : Entry :=
  { cell := ⟨0, 0⟩, own := Pair.both false, ocn := Pair.both 0, qoff := 0, inIdle := true, inCall := true,
    state := .free, servingFor := Pair.both false, filter := none, level := none, quality := none, misses := 0,
    lastFrame := none, penalty := none, bar := none, trig := Pair.both ⟨0, false, 0⟩ }

/-- R133, R136, R142, R149. -/
def MeasLine.reset : MeasLine :=
  { round := none, pos := 23, prevPos := 23, timer := .stopped, sched := .none, reportsSent := 0, roundsSince := 0,
    counts := ⟨0, 0, 0, 0, 0, 0, 0, 0⟩ }

/-- R127, R131, R149. -/
def MeasUnit.reset : MeasUnit :=
  { entries := Tab.fill .free, lockHold := 50, lock := none, lines := Pair.both .reset }

/-- R150, R163. -/
def MoveLine.reset : MoveLine := { record := none, counts := ⟨0, 0, 0, 0, 0, 0, 0, 0, 0, 0, 0, 0⟩ }

/-- R164. -/
def sleepDefaults : SleepSettings :=
  { idleDelay := 2000, guardCode := 0, maxSleep := 0, responseTime := 200, watermark := 40,
    enables := ⟨true, true, true, true, true, true⟩, exitClears := false }

/-- R164, R172: the Sleep Controller at either reset, before the idle timer starts. -/
def SleepRec.reset (settings : SleepSettings) : SleepRec :=
  { power := .awake, entry := .clear, idle := none, guard := none, maxSleep := none, response := none,
    repulse := none, repulses := 0, reasons := [], lastSleep := none, asleepMs := 0, wake := false,
    settings := settings }

/-- R179, R182: a record Clear with count 0, its mask clear. -/
def CondRec.reset (action : FaultAction) : CondRec :=
  { on := false, events := 0, last := none, mask := false, action := action }

/-- R179, R182: F4's default action is Search, every other fault's Report. -/
def condDefaults : Tab CondRec 15 :=
  #v[.reset .report, .reset .report, .reset .report, .reset .report, .reset .report, .reset .report, .reset .report,
     .reset .report, .reset .report, .reset .report, .reset .report, .reset .report, .reset .search, .reset .report,
     .reset .report]

/-- The part after Cold Reset (R23 and the reset rule of each chapter). The idle condition holds then, so the idle
timer runs at the default idle delay (R172). -/
def Device.reset : Device :=
  { inReset := false, lastReset := .cold, modem := .reset, host := .reset, disp := .reset,
    lines := Pair.both (.reset .default), arb := .reset, paging := Pair.both (.reset (Tab.fill .empty)),
    text := .reset, calls := .reset, meas := .reset, move := Pair.both .reset,
    sleep := { SleepRec.reset sleepDefaults with idle := some 2000 }, conds := condDefaults }

/-- The machine right after reset: the part after Cold Reset, and no command waiting. -/
def State.reset : State := { dev := .reset, pending := [] }

end Sys2Proof.Machine
end

