-- ==== Sys2Proof/Machine/Operands.lean ====
section
/-! DEFINITION. What a step reads from its operands: the link frame's layout, its check, the intake tests, and the
numbers and classes of what the device sends (chapter 1). -/

namespace Sys2Proof.Machine

/-! ### The link frame (R1, R2) -/

/-- The Kind field's values (R1). -/
def kindCode : Kind → Nat
  | .page => 1 | .signal => 2 | .sample => 3 | .voice => 4 | .radio => 5
  | .pause => 6 | .command => 7 | .reply => 8 | .notice => 9

/-- The kind that a Kind field names (R1). -/
def kindOfCode : Nat → Option Kind
  | 1 => some .page | 2 => some .signal | 3 => some .sample | 4 => some .voice | 5 => some .radio
  | 6 => some .pause | 7 => some .command | 8 => some .reply | 9 => some .notice
  | _ => none

/-- The Class field's values (R1). -/
def clsCode : Cls → BitVec 2
  | .urgent => 0 | .normal => 1 | .bulk => 2

/-- A 16-bit field as two bytes, most significant first (R1). -/
def halfBytes (h : Half) : List Byte := [h.extractLsb' 8 8, h.extractLsb' 0 8]

/-- Two bytes as a 16-bit field, most significant first (R1). -/
def halfOf (hi lo : Byte) : Half := hi ++ lo

/-- One bit of the check: shift out the top bit and add the generator x^16 + x^12 + x^5 + 1 where it was 1 (R2). -/
def crcShift (r : Half) : Half := if r.msb then (r <<< 1) ^^^ 0x1021#16 else r <<< 1

/-- One byte enters the check, most significant bit first (R2). -/
def crcByte (r : Half) (b : Byte) : Half :=
  crcShift (crcShift (crcShift (crcShift (crcShift (crcShift (crcShift (crcShift (r ^^^ (b ++ 0#8)))))))))

/-- The check over a run of bytes: all ones at the start, no final inversion (R2). -/
def crc16 (bytes : List Byte) : Half := bytes.foldl crcByte 0xFFFF#16

/-- The six header bytes (R1). -/
def headerBytes (kind : Kind) (line cls : BitVec 2) (tag : Byte) (length linkCount : Half) : List Byte :=
  [(BitVec.ofNat 4 (kindCode kind)) ++ (line ++ cls), tag] ++ halfBytes length ++ halfBytes linkCount

/-- The check of a frame the device sends, computed afresh over header and payload (R2). -/
def frameCheck (kind : Kind) (line cls : BitVec 2) (tag : Byte) (linkCount : Half) (payload : List Byte) : Half :=
  crc16 (headerBytes kind line cls tag (BitVec.ofNat 16 payload.length) linkCount ++ payload)

/-- The fields of a frame's header, read from its bytes; `kind` is `none` where the Kind field names none. -/
structure Header where
  kind : Option Kind
  line : BitVec 2
  cls : BitVec 2
  tag : Byte
  length : Half
  linkCount : Half
  deriving DecidableEq, Repr

/-- Byte `i` of a frame; 0 beyond its end. -/
def byteAt (bytes : List Byte) (i : Nat) : Byte := bytes.getD i 0

/-- The header of a delimited frame (R1). -/
def headerOf (bytes : List Byte) : Header :=
  let b0 := byteAt bytes 0
  { kind := kindOfCode (b0.extractLsb' 4 4).toNat
    line := b0.extractLsb' 2 2
    cls := b0.extractLsb' 0 2
    tag := byteAt bytes 1
    length := halfOf (byteAt bytes 2) (byteAt bytes 3)
    linkCount := halfOf (byteAt bytes 4) (byteAt bytes 5) }

/-- The payload of a frame whose Length fits it. -/
def payloadOf (bytes : List Byte) : List Byte := (bytes.drop 6).take (headerOf bytes).length.toNat

/-- The check a frame carries, in its last two bytes. -/
def carriedCheck (bytes : List Byte) : Half :=
  halfOf (byteAt bytes (bytes.length - 2)) (byteAt bytes (bytes.length - 1))

/-! ### Kinds and ports (section 1.2) -/

/-- The two ports, by their partner. -/
inductive Port where
  | modem | host
  deriving DecidableEq, Repr

/-- The kinds a port accepts from its partner (section 1.2). -/
def accepts : Port → Kind → Bool
  | .modem, .page | .modem, .signal | .modem, .sample | .modem, .voice | .modem, .radio => true
  | .host, .signal | .host, .voice | .host, .pause | .host, .command => true
  | _, _ => false

/-- The first intake test of R5 that a delimited frame fails. -/
def intakeError (port : Port) (bytes : List Byte) : Option IntakeError :=
  let h := headerOf bytes
  if bytes.length < 8 then some .short
  else if Config.maxPayload < h.length.toNat ∨ Config.maxFrame < bytes.length then some .long
  else if bytes.length ≠ 8 + h.length.toNat then some .lengthMismatch
  else if crc16 (bytes.take (bytes.length - 2)) ≠ carriedCheck bytes then some .check
  else match h.kind with
    | none => some .kind
    | some k => if h.line = 3 ∨ accepts port k = false then some .kind else none

/-- The order number of an intake error (R5, R180). -/
def IntakeError.number : IntakeError → Nat
  | .short => 1 | .long => 2 | .lengthMismatch => 3 | .check => 4 | .kind => 5

/-- The accepted frame that a delimited frame holds. -/
def linkFrameOf (f : WireFrame) (kind : Kind) : LinkFrame :=
  let h := headerOf f.bytes
  { kind := kind, line := h.line, cls := h.cls, tag := h.tag, data := payloadOf f.bytes, fields := f.fields }

/-- The pause time of a PAUSE: its payload is exactly two bytes (R1, R4). -/
def pauseTimeOf (payload : List Byte) : Option Half :=
  match payload with
  | [hi, lo] => some (halfOf hi lo)
  | _ => none

/-! ### What the device sends -/

/-- The kind of a modem-bound frame. -/
def ModemPayload.kind : ModemPayload → Kind
  | .forwarded f => f.kind
  | .order _ => .radio
  | .pause _ => .pause
  | _ => .signal

/-- Payload bytes of a modem-bound frame: kept for a forwarded frame, two bytes for PAUSE (R1, R3), and the
uninterpreted layout for the rest. -/
def ModemPayload.bytes : ModemPayload → List Byte
  | .forwarded f => f.data
  | .pause t => halfBytes t
  | p => Config.payloadBytes p

/-- A modem-bound frame as its header shows it on the link: a forwarded frame keeps the Tag it arrived with, also where it went to
the Voice lane with its record's tag (R3, R124; DEDUCED, log entry 12). -/
def ModemFrame.onWire (f : ModemFrame) : ModemFrame :=
  match f.payload with
  | .forwarded g => { f with tag := g.tag }
  | _ => f

/-- A SIGNAL frame of the device's own toward the modem: Class 0 (R3). -/
def deviceSignal (l : LineId) (tag : Byte) (p : ModemPayload) : ModemFrame :=
  { line := LineId.toField (some l), cls := 0, tag := tag, payload := p }

/-! ### The NOTICE head (section 1.3) -/

/-- A fault, as against a warning (section 11.3). -/
def Cond.isFault : Cond → Bool
  | .f1 | .f2 | .f3 | .f4 | .f5 | .f6 => true
  | _ => false

/-- The index of a condition: W1 to W9, then F1 to F6 (R176). -/
def Cond.index : Cond → Fin 15
  | .w1 => 0 | .w2 => 1 | .w3 => 2 | .w4 => 3 | .w5 => 4 | .w6 => 5 | .w7 => 6 | .w8 => 7 | .w9 => 8
  | .f1 => 9 | .f2 => 10 | .f3 => 11 | .f4 => 12 | .f5 => 13 | .f6 => 14

/-- Every condition in the order of its code. -/
def Cond.all : List Cond := [.w1, .w2, .w3, .w4, .w5, .w6, .w7, .w8, .w9, .f1, .f2, .f3, .f4, .f5, .f6]

/-- A condition's code: W1 to W9 are 1 to 9, F1 to F6 are 10 to 15 (section 11.3). -/
def Cond.code (c : Cond) : Nat := c.index.val + 1

/-- The Notice kind byte (section 1.3). -/
def NoticeBody.kindNumber : NoticeBody → Nat
  | .crossPage .. => 1 | .text .. => 2 | .callState .. => 3 | .lineState .. => 4 | .moveResult .. => 5
  | .reselectResult .. => 6 | .sleepOffer .. => 7 | .condition .. => 8 | .servicePage .. => 9

/-- The name of a LINE-STATE code (R60, R83). -/
def LineNotice.name : LineNotice → LineCode
  | .noService .. => .noService
  | .camped .. => .camped
  | .lost .. => .lost
  | .off .. => .off
  | .refused .. => .refused
  | .holdFull .. => .holdFull
  | .pagingOff .. => .pagingOff

/-- The Code of a TEXT notice: Whole 1, Partial 2 (R102). -/
def TextCode.number : TextCode → Nat
  | .whole => 1
  | .partialText => 2

/-- The Code byte of a NOTICE: the number that the manual gives (TEXT R102, SLEEP-OFFER section 10.2, CONDITION R180,
SERVICE-PAGE R92), or the uninterpreted number of a code that it gives by name alone (log entry 4). -/
def NoticeBody.code : NoticeBody → Byte
  | .crossPage c .. => Config.namedCode (NamedCode.crossPage c)
  | .text c .. => BitVec.ofNat 8 c.number
  | .callState c .. => Config.namedCode (NamedCode.callState c)
  | .lineState _ c => Config.namedCode (NamedCode.lineState c.name)
  | .moveResult c .. => Config.namedCode (NamedCode.moveResult c)
  | .reselectResult c .. => Config.namedCode (NamedCode.reselectResult c)
  | .sleepOffer .. => 0
  | .condition c .. => BitVec.ofNat 8 c.code
  | .servicePage .. => 0

/-- The four head bytes of a NOTICE: kind, Code, and the Subject most significant byte first (section 1.3, R1). -/
def noticeHead (n : Notice) : List Byte :=
  [BitVec.ofNat 8 n.body.kindNumber, n.body.code] ++ halfBytes (BitVec.ofNat 16 n.subject)

/-- The kind of a host-bound frame. -/
def HostPayload.kind : HostPayload → Kind
  | .delivered f => f.kind
  | .reply _ => .reply
  | .notice _ => .notice

/-- Payload bytes of a host-bound frame: kept for a delivered frame (R32), the head and the uninterpreted body of a NOTICE,
and the uninterpreted layout of a REPLY, which has no fixed head (section 1.3). -/
def HostPayload.bytes : HostPayload → List Byte
  | .delivered f => f.data
  | .notice n => noticeHead n ++ Config.payloadBytes n.body
  | .reply r => Config.payloadBytes r

/-- A REPLY (R16, R174). -/
def HostFrame.isReply (f : HostFrame) : Bool :=
  match f.payload with
  | .reply _ => true
  | _ => false

/-- A SLEEP-OFFER notice (R165). -/
def HostFrame.isSleepOffer (f : HostFrame) : Bool :=
  match f.payload with
  | .notice ⟨_, .sleepOffer _ _ _⟩ => true
  | _ => false

/-- A REPLY to Sleep Enter, command 9 (R20, R166). -/
def HostFrame.isSleepEnterReply (f : HostFrame) : Bool :=
  match f.payload with
  | .reply ⟨9, .done⟩ => true
  | _ => false

/-- The class of a notice (section 1.6; R60, R91, R92, R102, R110, R162, R165, R180). -/
def NoticeBody.cls : NoticeBody → Cls
  | .crossPage .. | .text .. | .servicePage .. => .urgent
  | .callState .offered .. => .urgent
  | .callState .. => .normal
  | .lineState _ (.noService ..) | .lineState _ (.lost ..) => .urgent
  | .lineState .. => .normal
  | .moveResult .. | .reselectResult .. | .sleepOffer .. => .normal
  | .condition c .. => if c.isFault then .urgent else .normal

/-- A NOTICE before it has a sequence number. -/
def noticeFrame (line : Option LineId) (subject : Nat) (body : NoticeBody) : HostFrame :=
  { line := LineId.toField line, cls := body.cls, tag := 0, payload := .notice ⟨subject, body⟩ }

/-- A REPLY to a command (R3, R174). Its Line field is 0 for every command, for which no rule gives one (DESIGN CHOICE, log entry
59). -/
def replyFrame (tag : Byte) (command : Byte) (o : ReplyOutcome) : HostFrame :=
  { line := 0, cls := .urgent, tag := tag, payload := .reply ⟨command, o⟩ }

/-! ### Messages -/

/-- The seven call message types whose owner is the Call Unit (R31). -/
def MsgType.isNetworkCall : MsgType → Bool
  | .callOffer | .callAlert | .callConnect | .callClear | .clearDone | .holdAck | .retrieveAck => true
  | _ => false

/-- The six call message types that Track gives to the Call Unit (R35). -/
def MsgType.isHostCall : MsgType → Bool
  | .callRequest | .callAnswer | .callHold | .callRetrieve | .callClear | .clearDone => true
  | _ => false

/-- A type that the manual defines; no rule can name another (R28). -/
def MsgType.isDefined : MsgType → Bool
  | .undefined _ => false
  | _ => true

/-- The call reference of a call message in its proper form: present, at most 127 (R117), and for a CALL-CLEAR with
its cause (log entry 11). -/
def callRefOf (f : Fields) : Option Nat :=
  match f.callRef with
  | none => none
  | some r => if 127 < r ∨ (f.mtype = .callClear ∧ f.cause = none) then none else some r

end Sys2Proof.Machine
end

