-- ==== Sys2Proof/Machine/Ops.lean ====
section
/-! DEFINITION. The named reads and updates of the part, its timers, and the lanes of the Modem Transmit Selector
(section 1.5): what every block's operations are built from. -/

namespace Sys2Proof.Machine

/-! ### One update per block -/

namespace Device

def onModem (f : ModemPort → ModemPort) (d : Device) : Device := { d with modem := f d.modem }
def onHost (f : HostPort → HostPort) (d : Device) : Device := { d with host := f d.host }
def onDisp (f : Dispatcher → Dispatcher) (d : Device) : Device := { d with disp := f d.disp }
def onLine (l : LineId) (f : LineRec → LineRec) (d : Device) : Device := { d with lines := d.lines.upd l f }
def onArb (f : Arbiter → Arbiter) (d : Device) : Device := { d with arb := f d.arb }
def onPaging (l : LineId) (f : PagingRec → PagingRec) (d : Device) : Device := { d with paging := d.paging.upd l f }
def onText (f : TextUnit → TextUnit) (d : Device) : Device := { d with text := f d.text }
def onCalls (f : CallUnit → CallUnit) (d : Device) : Device := { d with calls := f d.calls }
def onMeas (f : MeasUnit → MeasUnit) (d : Device) : Device := { d with meas := f d.meas }
def onMove (l : LineId) (f : MoveLine → MoveLine) (d : Device) : Device := { d with move := d.move.upd l f }
def onSleep (f : SleepRec → SleepRec) (d : Device) : Device := { d with sleep := f d.sleep }
def onCond (c : Cond) (f : CondRec → CondRec) (d : Device) : Device := { d with conds := d.conds.upd c.index f }

/-- Change one neighbour entry (only the Measurement Unit's operations do; chapter 8). -/
def onEntry (i : Fin 24) (f : Entry → Entry) (d : Device) : Device :=
  d.onMeas fun m => { m with entries := m.entries.upd i f }

/-- Change a line's part of the Measurement Unit. -/
def onMeasLine (l : LineId) (f : MeasLine → MeasLine) (d : Device) : Device :=
  d.onMeas fun m => { m with lines := m.lines.upd l f }

/-- Change one slot of the arbiter. -/
def onSlot (i : Fin 13) (f : Slot → Slot) (d : Device) : Device :=
  d.onArb fun a => { a with slots := a.slots.upd i f }

/-- Change one record of the Call Table. -/
def onCall (t : Fin 4) (f : Option CallRec → Option CallRec) (d : Device) : Device :=
  d.onCalls fun c => { c with recs := c.recs.upd t f }

/-- A line's record. -/
def line (d : Device) (l : LineId) : LineRec := d.lines.get l

/-- A line's state. -/
def lineState (d : Device) (l : LineId) : LineState := (d.line l).state

/-- A line's parameters. -/
def params (d : Device) (l : LineId) : LineParams := (d.line l).params

/-- A neighbour entry. -/
def entry (d : Device) (i : Fin 24) : Entry := d.meas.entries.get i

/-- A line's part of the Measurement Unit. -/
def measLine (d : Device) (l : LineId) : MeasLine := d.meas.lines.get l

/-- A line's move record. -/
def moveRec (d : Device) (l : LineId) : Option MoveRec := (d.move.get l).record

/-- A call record. -/
def call (d : Device) (t : Fin 4) : Option CallRec := d.calls.recs.get t

/-- A line's serving cell. -/
def servingCell (d : Device) (l : LineId) : Option Cell := (d.line l).serving.map fun i => (d.entry i).cell

/-- A reselection of the line is in flight (R158). -/
def reselecting (d : Device) (l : LineId) : Bool :=
  match d.moveRec l with
  | some m => m.kind == .reselect
  | none => false

/-- A line is Connected or Moving. -/
def carriesCall (d : Device) (l : LineId) : Bool := d.lineState l == .connected || d.lineState l == .moving

end Device

/-! ### Reads of the Request Slots (R62, R63) -/

/-- The class of a slot (R62). -/
def slotClass (i : Fin 13) : SlotClass :=
  match i.val with
  | 0 | 6 => .move
  | 1 | 7 => .traffic
  | 2 | 8 => .paging
  | 3 | 9 => .access
  | 4 | 10 => .measure
  | 5 | 11 => .search
  | _ => .borrow

/-- The line of a slot; BORROW has none (R62). -/
def slotLine (i : Fin 13) : Option LineId :=
  if i.val < 6 then some .a else if i.val < 12 then some .b else none

/-- The line on whose frames a slot's boundaries are counted: Line A for BORROW (R62, R76). -/
def slotCountLine (i : Fin 13) : LineId := (slotLine i).getD .a

/-- The place of a class in the Class Table (R176). -/
def SlotClass.index : SlotClass → Fin 7
  | .move => 0 | .traffic => 1 | .paging => 2 | .access => 3 | .measure => 4 | .search => 5 | .borrow => 6

/-- The slot of a class for a line (R62). -/
def slotOf (c : SlotClass) (l : LineId) : Fin 13 :=
  match c, l with
  | .move, .a => 0 | .traffic, .a => 1 | .paging, .a => 2 | .access, .a => 3 | .measure, .a => 4 | .search, .a => 5
  | .move, .b => 6 | .traffic, .b => 7 | .paging, .b => 8 | .access, .b => 9 | .measure, .b => 10 | .search, .b => 11
  | .borrow, _ => 12

/-- What a slot keeps. -/
def Device.slot (d : Device) (i : Fin 13) : Slot := d.arb.slots.get i

/-- The state of a slot (R63). -/
def slotState (d : Device) (i : Fin 13) : SlotState :=
  match d.arb.holder with
  | some h =>
    if h.slot = i then
      match h.phase with
      | .granted => .granted
      | .active => .active
      | .yielding => .yielding
    else
      match (d.slot i).want with
      | .idle => .idle
      | .pending => .pending
      | .deferred => .deferred
  | none =>
    match (d.slot i).want with
    | .idle => .idle
    | .pending => .pending
    | .deferred => .deferred

/-- A slot holds the radio (R63). -/
def SlotState.holds : SlotState → Bool
  | .granted | .active | .yielding => true
  | _ => false

/-- A slot is Pending or Deferred. -/
def SlotState.waits : SlotState → Bool
  | .pending | .deferred => true
  | _ => false

/-! ### Timers -/

/-- A timer in ms after `n` ms: a timer at 0 is due and stays there until its expiry is taken (log entry 2). -/
def countDown (n : Nat) (t : Option Nat) : Option Nat := t.map (· - n)

/-- A guard after `n` ms: a frozen guard keeps its time (R123). -/
def Guard.countDown (n : Nat) : Guard → Guard
  | .running r => .running (r - n)
  | g => g

/-- A timer in frames after one boundary. -/
def FrameTimer.boundary : FrameTimer → FrameTimer
  | .running r => .running (r - 1)
  | t => t

/-- Freeze a running frame timer. -/
def FrameTimer.freeze : FrameTimer → FrameTimer
  | .running r => .frozen r
  | t => t

/-- Let a frozen frame timer run on. -/
def FrameTimer.resume : FrameTimer → FrameTimer
  | .frozen r => .running r
  | t => t

/-- `n` ms pass: every running timer in ms or s loses them, and the times that count up gain them (00, Timers;
R97, R122, R146, R164, R169). Frame time passes by FRAME_BOUNDARY alone (log entry 3). -/
def passMs (n : Nat) (d : Device) : Device :=
  { d with
    modem := { d.modem with pausing := countDown n d.modem.pausing }
    host := { d.host with pauseTimer := countDown n d.host.pauseTimer }
    lines := ⟨{ d.lines.a with retry := countDown n d.lines.a.retry },
              { d.lines.b with retry := countDown n d.lines.b.retry }⟩
    arb := { d.arb with
      holder := d.arb.holder.map fun h => { h with grantTimer := countDown n h.grantTimer } }
    text := { d.text with
      recs := d.text.recs.all fun r =>
        r.map fun r => { r with ageMs := r.ageMs + n, timer := countDown n r.timer } }
    calls := { d.calls with
      recs := d.calls.recs.all fun r => r.map fun r => { r with guard := r.guard.countDown n } }
    meas := { d.meas with
      entries := d.meas.entries.all fun e =>
        { e with penalty := countDown n e.penalty, bar := countDown n e.bar }
      lock := d.meas.lock.map fun k => { k with left := k.left - n } }
    sleep := { d.sleep with
      idle := countDown n d.sleep.idle
      guard := countDown n d.sleep.guard
      maxSleep := countDown n d.sleep.maxSleep
      response := countDown n d.sleep.response
      repulse := countDown n d.sleep.repulse
      asleepMs := if d.sleep.power = .asleep ∨ d.sleep.power = .waking then d.sleep.asleepMs + n
        else d.sleep.asleepMs } }

/-! ### Lanes toward the modem (R11, R13) -/

/-- A voice frame joins the Voice lane; a full lane gives up its oldest frame (R13). -/
def placeVoice (f : ModemFrame) (d : Device) : Device :=
  d.onModem fun m => { m with voiceLane := pushDropOldest Config.voiceLaneCap m.voiceLane f }

/-- A radio order joins the Order lane; a full lane gives up its oldest order (R13). -/
def placeOrder (line : Option LineId) (o : RadioOrder) (d : Device) : Device :=
  d.onModem fun m =>
    { m with
      orderLane := pushDropOldest Config.orderLaneCap m.orderLane
        { line := LineId.toField line, cls := 0, tag := 0, payload := .order o } }

/-- The Device lane has room. -/
def deviceLaneFree (d : Device) : Bool := d.modem.deviceLane.length < Config.deviceLaneCap

/-- A frame of the device's own joins the Device lane, or is discarded there when it is full; the flag says that it
was placed (R13). -/
def placeDevice (f : ModemFrame) (d : Device) : Device × Bool :=
  if deviceLaneFree d then (d.onModem fun m => { m with deviceLane := m.deviceLane ++ [f] }, true) else (d, false)

/-- The Host lane has room. -/
def hostLaneFree (d : Device) : Bool := d.modem.hostLane.length < Config.hostLaneCap

/-- A host SIGNAL frame joins the Host lane; a full lane does not take it (R13). -/
def placeHostLane (f : ModemFrame) (d : Device) : Device × Bool :=
  if hostLaneFree d then (d.onModem fun m => { m with hostLane := m.hostLane ++ [f] }, true) else (d, false)

/-- A PAUSE made by the Modem Port enters the Device lane with Class 0 and Tag 0 (R3, R8, R10). Its Line field is 0: no rule gives
it (DESIGN CHOICE, log entry 60). -/
def placePause (frames : Half) (d : Device) : Device × Bool :=
  placeDevice { line := 0, cls := 0, tag := 0, payload := .pause frames } d

/-! ### The pause state (R8, R9) -/

/-- The repeat timer's time, ms: it runs in units of 10 ms. -/
def pauseMs (d : Device) : Nat := 10 * d.modem.params.pauseTime

/-- PAUSE with the pause time is sent, and the repeat timer starts. -/
def startPausing (d : Device) : Device :=
  ((placePause (BitVec.ofNat 16 d.modem.params.pauseTime) d).1).onModem fun m =>
    { m with pausing := some (pauseMs d) }

/-- PAUSE 0 is sent, and the repeat timer stops. -/
def stopPausing (d : Device) : Device :=
  ((placePause 0 d).1).onModem fun m => { m with pausing := none }

/-- The fill has risen, or a write may have lowered pause-on (R8, R9). -/
def pauseOnTest (d : Device) : Device :=
  if d.modem.pausing = none ∧ d.modem.params.pauseOn ≤ d.modem.intake.length then startPausing d else d

/-- The fill has fallen, or a write may have raised pause-off (R8, R9). -/
def pauseOffTest (d : Device) : Device :=
  if d.modem.pausing ≠ none ∧ d.modem.intake.length ≤ d.modem.params.pauseOff then stopPausing d else d

/-! ### The Call Table's reads (R109) -/

/-- The record of a line and call reference (R109). -/
def findCall (l : LineId) (ref : Nat) (d : Device) : Option (Fin 4) :=
  (indexes 4).find? fun t =>
    match d.call t with
    | some r => r.line = l ∧ r.ref = ref
    | none => false

/-- The Tag of a SIGNAL or VOICE frame sent to the host: the tag of the record found by its line and call reference,
or 255 (R3). -/
def callTag (line : BitVec 2) (f : Fields) (d : Device) : Byte :=
  match LineId.ofField line, f.callRef with
  | some l, some ref =>
    match findCall l ref d with
    | some t => BitVec.ofNat 8 t.val
    | none => 255
  | _, _ => 255

end Sys2Proof.Machine
end

