-- ==== Sys2Proof/Machine/HostQueue.lean ====
section
/-! DEFINITION. The Host-bound Queue (section 1.6) with the reports that the Sleep Controller takes of it: the idle
condition (R165) and the wake reasons (R167, R168). -/

namespace Sys2Proof.Machine

/-! ### The idle condition (R165) -/

/-- The idle condition. -/
def idleCond (d : Device) : Bool :=
  d.host.queue.all HostFrame.isSleepOffer
  && LineId.all.all (fun l => !(d.carriesCall l || d.lineState l == .stopping))
  && (indexes 4).all (fun t => (d.call t).isNone)
  && d.meas.lock.isNone
  && slotState d 12 == .idle

/-- The idle condition breaks (R165). -/
def idleBreaks (d : Device) : Device :=
  match d.sleep.power with
  | .awake => d.onSleep fun s => { s with idle := none }
  | .offered => d.onSleep fun s => { s with idle := none, power := .awake }
  | _ => d

/-! ### Waking the host (R167, R168) -/

/-- The host is woken (R168). -/
def wakeHost (d : Device) : Device :=
  d.onSleep fun s =>
    { s with
      guard := none, maxSleep := none, power := .waking, wake := true, repulses := 0, repulse := none
      response := some s.settings.responseTime }

/-- A reason joins the wake reasons set, which holds each once. -/
def withReason (r : WakeReason) (l : List WakeReason) : List WakeReason := if r ∈ l then l else l ++ [r]

/-- A reason joins the set, and wakes an Asleep host at once when it is Pressure or no guard runs (R168). -/
def addReason (r : WakeReason) (d : Device) : Device :=
  let d' := d.onSleep fun s => { s with reasons := withReason r s.reasons }
  if d.sleep.power = .asleep ∧ (r = .pressure ∨ d.sleep.guard = none) then wakeHost d' else d'

/-- The wake reason of a joining frame (R167). -/
def frameReason (f : HostFrame) : Option WakeReason :=
  if f.cls ≠ .urgent then none
  else match f.payload with
    | .delivered _ => some .forwarded
    | .reply _ => none
    | .notice n =>
      match n.body with
      | .callState .. => some .call
      | .text .. => some .text
      | .crossPage .. => some .crossPage
      | .lineState .. => some .line
      | .condition .. => some .fault
      | .servicePage .. => some .forwarded
      | _ => none

/-- The wake enable of a reason; Pressure and Timer have none and always count (R167, R168). -/
def Enables.allows (e : Enables) : WakeReason → Bool
  | .call => e.call
  | .text => e.text
  | .crossPage => e.crossPage
  | .line => e.line
  | .fault => e.fault
  | .forwarded => e.forwarded
  | .pressure | .timer => true

/-- The Sleep Controller takes the report of a frame that has joined (R167). -/
def wakeReport (f : HostFrame) (d : Device) : Device :=
  if d.sleep.power = .asleep ∨ d.sleep.power = .waking then
    let d1 :=
      match frameReason f with
      | some r => if Enables.allows d.sleep.settings.enables r then addReason r d else d
      | none => d
    if d1.sleep.settings.watermark ≤ d1.host.queue.length then addReason .pressure d1 else d1
  else d

/-! ### Joining and displacement (R16, R17, R18) -/

/-- F1 or F2 is latched with action Quiet (R18). -/
def quiet (d : Device) : Bool :=
  let f1 := d.conds.get Cond.f1.index
  let f2 := d.conds.get Cond.f2.index
  (f1.on && f1.action == .quiet) || (f2.on && f2.action == .quiet)

/-- Where a frame joins: a REPLY behind the replies at the head, any other frame at the tail (R16). -/
def insertFrame (f : HostFrame) (q : List HostFrame) : List HostFrame :=
  if f.isReply then q.takeWhile HostFrame.isReply ++ [f] ++ q.dropWhile HostFrame.isReply else q ++ [f]

/-- A frame joins the queue `q`, which has room: a NOTICE takes the next sequence number (R16), and the Sleep
Controller is told (R16, R165, R167). -/
def joinQueue (f : HostFrame) (q : List HostFrame) (d : Device) : Device :=
  let f' : HostFrame :=
    match f.payload with
    | .notice _ => { f with tag := d.host.seq }
    | _ => f
  let d1 := d.onHost fun h =>
    { h with
      queue := insertFrame f' q
      seq := match f.payload with
        | .notice _ => h.seq + 1
        | _ => h.seq }
  let d2 := if idleCond d && !idleCond d1 then idleBreaks d1 else d1
  wakeReport f' d2

/-- What becomes of an offered frame (R16, R17, R18). -/
inductive OfferResult where
  /-- It joined. -/
  | joined
  /-- It joined in the place of a Normal frame of the line given, which raises F2. -/
  | displacedNormal (line : BitVec 2)
  /-- It was discarded without a condition. -/
  | discarded
  /-- It was discarded, which raises F2. -/
  | overflowed
  deriving DecidableEq, Repr

/-- The frame is in the queue. -/
def OfferResult.placed : OfferResult → Bool
  | .joined | .displacedNormal _ => true
  | _ => false

/-- A frame of the class is held. -/
def holdsCls (c : Cls) (q : List HostFrame) : Bool := q.any (·.cls == c)

/-- The queue without its oldest frame of the class. -/
def dropOldest (c : Cls) (q : List HostFrame) : List HostFrame := eraseFirst (·.cls == c) q

/-- Offer a frame to the Host-bound Queue, without the condition that may follow (R16, R17, R18). -/
def offerRaw (f : HostFrame) (d : Device) : Device × OfferResult :=
  let q := d.host.queue
  if f.cls = .bulk ∧ quiet d then (d, .discarded)
  else if q.length < Config.hostQueueCap then (joinQueue f q d, .joined)
  else
    match f.cls with
    | .bulk => (d, .discarded)
    | .normal =>
      if holdsCls .bulk q then (joinQueue f (dropOldest .bulk q) d, .joined) else (d, .overflowed)
    | .urgent =>
      if holdsCls .bulk q then (joinQueue f (dropOldest .bulk q) d, .joined)
      else
        match q.find? (·.cls == .normal) with
        | some g => (joinQueue f (dropOldest .normal q) d, .displacedNormal g.line)
        | none => (d, .overflowed)

end Sys2Proof.Machine
end

