-- ==== Sys2Proof/Machine/Flags.lean ====
section
/-! DEFINITION. The Condition Monitor's flags (section 11.3): what an event does to its condition's record, the
notice it may draw, and offering a frame with the F2 event that the offer may be. -/

namespace Sys2Proof.Machine

/-- A condition's record. -/
def Device.cond (d : Device) (c : Cond) : CondRec := d.conds.get c.index

/-- The action of a fault, for its notice; a warning has none (R180). -/
def condAction (c : Cond) (d : Device) : Option FaultAction := if c.isFault then some (d.cond c).action else none

/-- An event enters its condition's record: the count advances, the last event is kept, and the condition is Raised
or Latched (R179, R181, R182). -/
def recordEvent (c : Cond) (line : BitVec 2) (subject : Nat) (d : Device) : Device :=
  d.onCond c fun r => { r with on := true, events := satInc r.events, last := some (line, subject) }

/-- The notice of a condition newly Raised or Latched (R180). -/
def conditionNotice (c : Cond) (line : BitVec 2) (subject : Nat) (d : Device) : HostFrame :=
  noticeFrame (LineId.ofField line) subject (.condition c (d.cond c).events (condAction c d))

/-- The event draws a notice: it finds its condition Clear and the mask clear (R180). -/
def drawsNotice (c : Cond) (d : Device) : Bool := !(d.cond c).on && !(d.cond c).mask

/-- An F2 event, for the frame of the line given. Its own notice may overflow in turn, which is one more event of the
now latched fault and draws no notice (R17, R180, R182). That second event names the line of the frame then discarded: the
notice's own line, or the displaced frame's. R180 says only 'the line of the event, or 0' (DEDUCED, log entry 10). -/
def overflowEvent (line : BitVec 2) (d : Device) : Device :=
  let d1 := recordEvent .f2 line 0 d
  if drawsNotice .f2 d then
    match offerRaw (conditionNotice .f2 line 0 d1) d1 with
    | (d2, .displacedNormal l) => recordEvent .f2 l 0 d2
    | (d2, .overflowed) => recordEvent .f2 line 0 d2
    | (d2, _) => d2
  else d1

/-- Offer a frame to the Host-bound Queue; the flag says that it joined. Where a frame is lost that F2 covers, F2's
event follows (R16, R17; log entry 9). -/
def offer (f : HostFrame) (d : Device) : Device × Bool :=
  match offerRaw f d with
  | (d1, .displacedNormal l) => (overflowEvent l d1, true)
  | (d1, .overflowed) => (overflowEvent f.line d1, false)
  | (d1, r) => (d1, r.placed)

/-- Offer a notice whose loss changes nothing (R110, R162, R180). -/
def notify (line : Option LineId) (subject : Nat) (body : NoticeBody) (d : Device) : Device :=
  (offer (noticeFrame line subject body) d).1

/-- An event of a condition other than F2: its record, and its notice (R180, R181, R182). The action of F4, F5 or F6
is taken by the unit that reports it. -/
def raise (c : Cond) (line : BitVec 2) (subject : Nat) (d : Device) : Device :=
  let d1 := recordEvent c line subject d
  if drawsNotice c d then (offer (conditionNotice c line subject d1) d1).1 else d1

/-- The Line field of a line, for an event. -/
def fieldOf (l : LineId) : BitVec 2 := LineId.toField (some l)

/-! ### The idle condition's return, and the sleep offer (R165) -/

/-- The idle timer expires: Offered, with a SLEEP-OFFER (R165). Offered is entered before the notice is offered, so that what the offer
brings about, an F2 notice in a full queue, finds the host Offered (DEDUCED, log entry 57). -/
def offerSleep (d : Device) : Device :=
  let s := d.sleep.settings
  notify none 0 (.sleepOffer s.guardCode s.maxSleep s.enables)
    (d.onSleep fun s => { s with idle := none, power := .offered })

/-- The idle timer starts at the idle delay, unless an entry is pending; at 0 it expires as it starts (R165). -/
def startIdle (d : Device) : Device :=
  if d.sleep.power = .awake ∧ d.sleep.entry = .clear then
    if d.sleep.settings.idleDelay = 0 then offerSleep d
    else d.onSleep fun s => { s with idle := some s.settings.idleDelay }
  else d

/-- The idle timer restarts where the condition holds (R165). -/
def restartIdle (d : Device) : Device := if idleCond d then startIdle d else d

/-- A change of the parts of the idle condition, from `before` to the present, is an event of the table of R165. -/
def idleEvent (before : Bool) (d : Device) : Device :=
  if before && !idleCond d then idleBreaks d
  else if !before && idleCond d then startIdle d
  else d

/-- Make a change, and take the idle condition's event that it is. -/
def withIdle (f : Device → Device) (d : Device) : Device := idleEvent (idleCond d) (f d)

/-- A line's state changes (R39, R165). -/
def setLineState (l : LineId) (st : LineState) (d : Device) : Device :=
  withIdle (fun d => d.onLine l fun r => { r with state := st }) d

/-- A call record changes (R109, R165). -/
def setCall (t : Fin 4) (r : Option CallRec) (d : Device) : Device := withIdle (fun d => d.onCall t fun _ => r) d

/-- The lock is taken or cleared (R147, R165). -/
def setLock (k : Option Lock) (d : Device) : Device :=
  withIdle (fun d => d.onMeas fun m => { m with lock := k }) d

/-- The arbiter's slots and holder change (R63, R165: slot 12). -/
def setArb (f : Arbiter → Arbiter) (d : Device) : Device := withIdle (fun d => d.onArb f) d

end Sys2Proof.Machine
end

