-- ==== Sys2Proof/Machine/Arbiter.lean ====
section
/-! DEFINITION. The Radio Time Arbiter's own operations (chapter 4): levels and modes, fairness, the choice of a
slot, SUSPEND, grants and the end of a hold. Asking the owners stands in Machine/Owners.lean. -/

namespace Sys2Proof.Machine

/-! ### Settings (R64) -/

/-- The Class Table record of a slot. -/
def slotRec (d : Device) (i : Fin 13) : ClassRec := d.arb.classes.get (slotClass i).index

/-- The level of a slot's class. -/
def level (d : Device) (i : Fin 13) : Nat := (slotRec d i).level

/-- The release type of a slot's class at present. -/
def classRelease (d : Device) (i : Fin 13) : Release := (slotRec d i).release

/-- The mode in force allows the slot (R68). -/
def allowed (d : Device) (i : Fin 13) : Bool :=
  match d.arb.mode with
  | .topOnly => level d i == 3
  | _ => true

/-- The times of the grant timeout codes in ms; code 0 is off (R64). -/
def grantMs (code : Nat) : Option Nat :=
  match code with
  | 1 => some 1 | 2 => some 2 | 3 => some 5 | 4 => some 10 | 5 => some 20 | 6 => some 50 | 7 => some 100
  | _ => none

/-! ### Fairness (R70) -/

/-- The slot is Pending. -/
def isPending (d : Device) (i : Fin 13) : Bool := (d.slot i).want == .pending

/-- Another slot of the same level is Pending. -/
def otherPending (d : Device) (i : Fin 13) : Bool :=
  (indexes 13).any fun j => j != i && isPending d j && level d j == level d i

/-- Set what a slot wants. -/
def setWant (i : Fin 13) (w : Want) (d : Device) : Device :=
  setArb (fun a => { a with slots := a.slots.upd i fun s => { s with want := w } }) d

/-- An order toward the modem for the slot's line, with the window number given (R62). -/
def slotOrder (i : Fin 13) (name : OrderName) (window length : Byte) (body : OrderBody) (d : Device) : Device :=
  placeOrder (slotLine i) ⟨name, window, length, body⟩ d

/-- SUSPEND is sent and the holder enters Yielding (R74). -/
def suspend (h : Holder) (d : Device) : Device :=
  (slotOrder h.slot .suspend h.window 0 .none d).onArb fun a =>
    { a with holder := some { h with phase := .yielding, count := 0 } }

/-- The slot, being Pending, would make a holder of release type OnRequest yield (R72, R74). -/
def presses (d : Device) (h : Holder) (i : Fin 13) : Bool :=
  classRelease d i == .whenDone && decide (level d h.slot ≤ level d i) && allowed d i

/-- A slot has become Pending: an Active OnRequest holder may be asked to yield (R74), and a Granted one will be
at its READY (R72). -/
def notePending (i : Fin 13) (d : Device) : Device :=
  match d.arb.holder with
  | none => d
  | some h =>
    match h.phase with
    | .granted => d.onSlot i fun s => { s with pended := true }
    | .active => if h.release = .onRequest ∧ presses d h i = true then suspend h d else d
    | .yielding => d

/-- A slot that is about to become Pending does so, or enters Deferred (R70). -/
def pend (i : Fin 13) (d : Device) : Device :=
  if (slotRec d i).fair ∧ (d.slot i).served ∧ otherPending d i = true then setWant i .deferred d
  else notePending i (setWant i .pending d)

/-- Deferred slots whose level has no Pending slot any longer become Pending, all together (R70). -/
def leaveDeferred (d : Device) : Device :=
  let out := (indexes 13).filter fun i => (d.slot i).want == .deferred && !otherPending d i
  out.foldl (fun d i => notePending i d) (out.foldl (fun d i => setWant i .pending d) d)

/-! ### Arbitration (R67, R68, R69) -/

/-- The candidates that the mode allows. -/
def candidates (d : Device) : List (Fin 13) := (indexes 13).filter fun i => isPending d i && allowed d i

/-- The candidates left once R69 has set OnRequest ones aside. -/
def contenders (d : Device) : List (Fin 13) :=
  let c := candidates d
  c.filter fun i =>
    classRelease d i == .whenDone
    || !(c.any fun j => classRelease d j == .whenDone && decide (level d i ≤ level d j))

/-- The first slot of the highest level. -/
def topLevel (d : Device) (c : List (Fin 13)) : Option (Fin 13) :=
  let best := (c.map (level d)).foldl max 0
  c.find? fun i => level d i == best

/-- The slot that an arbitration chooses by the mode's order (R68). -/
def chooseSlot (d : Device) : Option (Fin 13) :=
  let c := contenders d
  let circular := (indexesAfter d.arb.pointer).find? fun i => c.contains i
  match d.arb.mode with
  | .fixed => topLevel d c
  | .rotating => circular
  | .split =>
    match c.find? fun i => level d i == 3 with
    | some i => some i
    | none => circular
  | .topOnly => c.head?

/-! ### Holding the radio (R71, R75, R77, R78) -/

/-- The length in frames that an order's length field means (R62). -/
def frames (length : Byte) : Nat := if length = 0 then 256 else length.toNat

/-- The number that the next order takes (R71). -/
def takeWindow (d : Device) : Device := d.onArb fun a => { a with nextWindow := a.nextWindow + 1 }

/-- What an owner orders: the order's name, its length field and its body (R62, R71). -/
structure Order where
  name : OrderName
  length : Byte
  body : OrderBody
  deriving DecidableEq, Repr

/-- A chosen slot whose owner gives its order is Granted (R70, R71). -/
def grant (i : Fin 13) (o : Order) (d : Device) : Device :=
  let w := d.arb.nextWindow
  let h : Holder :=
    { slot := i, phase := .granted, release := classRelease d i, window := w, length := frames o.length
      grantTimer := grantMs d.arb.code, count := 0, released := false }
  let lv := level d i
  let clearServed : Fin 13 → Slot → Slot := fun j s =>
    { s with pended := false, served := if j ≠ i ∧ level d j = lv then false else s.served }
  let slots := (indexes 13).foldl (fun t j => Tab.upd t j (clearServed j)) d.arb.slots
  let d1 := setArb (fun a => { a with slots := slots.upd i fun s => { s with want := .idle }, holder := some h }) d
  leaveDeferred (slotOrder i o.name w o.length o.body (takeWindow d1))

/-- The holder stops holding the radio: it takes its served mark if it had its READY, and goes back to Pending if it
is standing or its repeat mark is set (R65, R66, R70). -/
def endHold (h : Holder) (d : Device) : Device :=
  let i := h.slot
  let s := d.slot i
  let ran := h.phase ≠ .granted
  let again := s.standing || s.repeated
  let d1 := setArb (fun a =>
    { a with
      holder := none
      slots := a.slots.upd i fun s =>
        { s with want := .idle, repeated := false, served := s.served || ((slotRec d i).fair && ran) } }) d
  if again then pend i d1 else d1

/-- CANCEL carrying the current window number (R73, R74, R76, R77, R78). -/
def cancel (h : Holder) (d : Device) : Device := slotOrder h.slot .cancel h.window 0 .none d

/-- Withdraw one slot: it goes to Idle without marks, a held window with a CANCEL (R78). -/
def withdrawOne (i : Fin 13) (d : Device) : Device :=
  let clear : Slot → Slot := fun s => { s with want := .idle, repeated := false, standing := false }
  match d.arb.holder with
  | some h =>
    if h.slot = i then
      setArb (fun a => { a with holder := none, slots := a.slots.upd i clear }) (cancel h d)
    else setArb (fun a => { a with slots := a.slots.upd i clear }) d
  | none => setArb (fun a => { a with slots := a.slots.upd i clear }) d

end Sys2Proof.Machine
end

