-- ==== Sys2Proof/Machine/Owners.lean ====
section
/-! DEFINITION. What the owners of the Request Slots answer when the arbiter asks for an order (R71, R85, R136, R153),
the arbitration that asks them (R67), and what an owner may ask of its slot (R65, R66, R77, R78). -/

namespace Sys2Proof.Machine

/-! ### Paging Unit (R83, R84, R85) -/

/-- A line's part of the Paging Unit. -/
def Device.page (d : Device) (l : LineId) : PagingRec := d.paging.get l

/-- The occasion offset: the primary identity's value mod the cycle in effect (R83). -/
def occasionOffset (l : LineId) (d : Device) : Option Nat :=
  match (d.page l).primary, (d.line l).cycle with
  | some i, some c => some (((d.page l).identities.get i).value.toNat % c)
  | _, _ => none

/-- The request frame: (offset − listen lead) mod cycle (R83). -/
def requestFrame (l : LineId) (d : Device) : Option Nat :=
  match occasionOffset l d, (d.line l).cycle with
  | some o, some c => some ((((o : Int) - (d.params l).listenLead) % (c : Int)).toNat)
  | _, _ => none

/-- An occasion is counted as missed (R86). -/
def countMissed (l : LineId) (d : Device) : Device :=
  d.onPaging l fun p => { p with counts := { p.counts with missed := satInc p.counts.missed } }

/-- The occasion watch ends. -/
def endWatch (l : LineId) (d : Device) : Device := d.onPaging l fun p => { p with watch := none }

/-- The Paging Unit's answer at a grant (R85). -/
def pagingOrder (l : LineId) (d : Device) : Device × Option Order :=
  match (d.page l).watch with
  | none => (d, none)
  | some w =>
    if w.toOccasion = 0 then (endWatch l (countMissed l d), none)
    else
      (d.onPaging l fun p => { p with watch := some { w with granted := true } },
       some ⟨.listen, BitVec.ofNat 8 (d.params l).listenWindow, .none⟩)

/-! ### Measurement Unit (R132, R136) -/

/-- The entry's flag for the line's current mode is set (R132). -/
def modeFlag (st : LineState) (e : Entry) : Bool :=
  match st with
  | .camped => e.inIdle
  | .connected | .moving => e.inCall
  | _ => false

/-- An entry is Listed, Measured or Stale. -/
def EntryState.live : EntryState → Bool
  | .listed | .measured | .stale => true
  | _ => false

/-- A line that has a measurement set: Camped, Connected or Moving (R132). -/
def hasSet (st : LineState) : Bool := st == .camped || st == .connected || st == .moving

/-- An entry is in the line's measurement set (R132). -/
def inSet (l : LineId) (d : Device) (i : Fin 24) : Bool :=
  let st := d.lineState l
  let e := d.entry i
  hasSet st && ((d.line l).serving == some i || (e.own.get l && e.state.live && modeFlag st e))

/-- A line's measurement set, in index order (R132). -/
def measSet (l : LineId) (d : Device) : List (Fin 24) := (indexes 24).filter (inSet l d)

/-- The Measurement Unit's answer at a grant (R136). -/
def measureOrder (l : LineId) (d : Device) : Device × Option Order :=
  if (d.lineState l = .camped ∨ d.lineState l = .connected) ∧ d.reselecting l = false then
    let pos := (d.measLine l).pos
    let cells := ((indexesAfter pos).filter (inSet l d)).take (d.params l).cellsW
    match cells.getLast? with
    | none => (d, none)
    | some last =>
      (d.onMeasLine l fun m => { m with pos := last, prevPos := pos },
       some ⟨.measure, BitVec.ofNat 8 (d.params l).measureWindow, .cells (cells.map fun i => (d.entry i).cell)⟩)
  else (d, none)

/-- A failed or withdrawn MEASURE grant puts the measure position back (R136). -/
def restorePos (l : LineId) (d : Device) : Device := d.onMeasLine l fun m => { m with pos := m.prevPos }

/-! ### Move Unit (R153) -/

/-- Change a present move record. -/
def onMoveRec (l : LineId) (f : MoveRec → MoveRec) (d : Device) : Device :=
  d.onMove l fun m => { m with record := m.record.map f }

/-- A TUNE to a cell with a window of at most 256 frames (R153). -/
def tune (c : Cell) (n : Nat) : Order := ⟨.tune, BitVec.ofNat 8 (min n 256), .cell c⟩

/-- The Move Unit's answer at a grant (R153). -/
def moveOrder (l : LineId) (d : Device) : Device × Option Order :=
  match d.moveRec l with
  | none => (d, none)
  | some m =>
    match m.phase with
    | .waitingGrant => (onMoveRec l (fun m => { m with phase := .tuning }) d, some (tune m.target m.deadline))
    | .fallback => (d, some (tune m.oldCell m.deadline))
    | .tuning | .confirming => (d, none)

/-- The deadline timer of a line's present move record: it runs while the MOVE slot is Active, once a TUNE has been placed, and
is frozen otherwise (R150, R153). -/
def deadlineTimer (l : LineId) (d : Device) : Option FrameTimer :=
  (d.moveRec l).map fun m =>
    if slotState d (slotOf .move l) = .active ∧ m.phase ≠ .waitingGrant then .running m.deadline else .frozen m.deadline

/-! ### Line Controller and Management Unit (R45, R51, R52, R66, R80) -/

/-- The Line Controller's answers: it declines for a line that has left the state for which it asked (R71). -/
def searchOrder (l : LineId) (d : Device) : Option Order :=
  if d.lineState l = .searching then
    some ⟨.search, BitVec.ofNat 8 (d.params l).searchWindow, .channels (d.line l).searchList⟩
  else none

/-- ACCESS: for a Camped line, and for a Connected line whose Hold still holds frames (R53, R71; log entry 33). -/
def accessOrder (l : LineId) (d : Device) : Option Order :=
  if d.lineState l = .camped ∨ d.lineState l = .connected ∧ (d.line l).hold ≠ [] then
    some ⟨.access, BitVec.ofNat 8 (d.params l).accessWindow, .none⟩
  else none

def trafficOrder (l : LineId) (d : Device) : Option Order :=
  if d.lineState l = .connected ∨ d.lineState l = .stopping then some ⟨.traffic, 0, .none⟩ else none

/-- The Management Unit's answer: the host's bytes (R80). -/
def borrowOrder (d : Device) : Option Order := d.arb.borrow.map fun b => ⟨.borrowOrder, b.length, .bytes b.bytes⟩

/-- The owner's answer at a grant of a slot: what changes, and the order, or `none` for a decline (R71). -/
def ownerOrder (i : Fin 13) (d : Device) : Device × Option Order :=
  let l := slotCountLine i
  match slotClass i with
  | .move => moveOrder l d
  | .traffic => (d, trafficOrder l d)
  | .paging => pagingOrder l d
  | .access => (d, accessOrder l d)
  | .measure => measureOrder l d
  | .search => (d, searchOrder l d)
  | .borrow => (d, borrowOrder d)

/-! ### Arbitration (R67, R71) -/

/-- A declined slot goes to Idle (R71). -/
def decline (i : Fin 13) (d : Device) : Device :=
  leaveDeferred (setArb (fun a =>
    { a with slots := a.slots.upd i fun s => { s with want := .idle, standing := false } }) d)

/-- An arbitration, and the new one that each decline draws; a decline leaves one slot fewer that wants the radio,
so 13 suffice (R67, R71). -/
def arbitrateN : Nat → Device → Device
  | 0, d => d
  | n + 1, d =>
    match d.arb.holder with
    | some _ => d
    | none =>
      match chooseSlot d with
      | none => d
      | some i =>
        match ownerOrder i (d.onArb fun a => { a with pointer := i }) with
        | (d', some o) => grant i o d'
        | (d', none) => arbitrateN n (decline i d')

/-- An arbitration where no slot holds the radio (R67). -/
def arbitrate (d : Device) : Device := arbitrateN 14 d

/-- Deferred slots whose level has none Pending any longer become Pending; one that does so on a free radio is an occasion for
an arbitration (R67, R70). -/
def settleDeferred (d : Device) : Device :=
  let d1 := leaveDeferred d
  if (indexes 13).any fun i => isPending d1 i && !isPending d i then arbitrate d1 else d1

/-! ### What owners ask (R65, R66, R77, R78) -/

/-- An owner's request (R65). -/
def requestSlot (i : Fin 13) (d : Device) : Device :=
  match slotState d i with
  | .idle => arbitrate (pend i d)
  | .pending | .deferred => d
  | .granted | .active | .yielding => d.onSlot i fun s => { s with repeated := true }

/-- The request of a line's TRAFFIC slot, which is standing from then on (R66). -/
def requestTraffic (l : LineId) (d : Device) : Device :=
  requestSlot (slotOf .traffic l) (d.onSlot (slotOf .traffic l) fun s => { s with standing := true })

/-- An owner's release; it also ends the standing of TRAFFIC (R65, R66). -/
def releaseSlot (i : Fin 13) (d : Device) : Device :=
  let unmark : Device → Device := fun d => d.onSlot i fun s => { s with repeated := false, standing := false }
  match slotState d i with
  | .idle => unmark d
  | .pending | .deferred => settleDeferred (setWant i .idle (unmark d))
  | .granted =>
    (unmark d).onArb fun a => { a with holder := a.holder.map fun h => { h with released := h.release == .onRequest } }
  | .active =>
    match d.arb.holder with
    | some h => if h.release = .onRequest then suspend h (unmark d) else unmark d
    | none => unmark d
  | .yielding => unmark d

/-- The owner of a withdrawn slot is told; `st` is the state the slot had (R78, R85, R136). -/
def tellWithdrawn (i : Fin 13) (st : SlotState) (d : Device) : Device :=
  let l := slotCountLine i
  match slotClass i with
  | .paging => if st = .idle then d else endWatch l d
  | .measure => if st.holds then restorePos l d else d
  | _ => d

/-- The Line Controller withdraws slots; an arbitration follows where one of them held the radio (R67, R78). -/
def withdrawSlots (is : List (Fin 13)) (d : Device) : Device :=
  let d1 := is.foldl (fun d i => tellWithdrawn i (slotState d i) (withdrawOne i d)) d
  if is.any fun i => (slotState d i).holds then arbitrate (leaveDeferred d1) else settleDeferred d1

/-- The six slots of a line. -/
def slotsOf (l : LineId) : List (Fin 13) := (indexes 13).filter fun i => slotLine i == some l

/-- A follow-on order within the holder's grant, asked while it is Active (R77). -/
def followOn (h : Holder) (o : Order) (d : Device) : Device :=
  let w := d.arb.nextWindow
  let h' : Holder :=
    { h with phase := .granted, window := w, length := frames o.length, grantTimer := grantMs d.arb.code, count := 0
             released := false }
  slotOrder h.slot o.name w o.length o.body
    ((takeWindow d).onArb fun a =>
      { a with holder := some h', slots := a.slots.all fun s => { s with pended := false } })

/-- The holder's owner ends its window (R77). -/
def ownerEnd (h : Holder) (d : Device) : Device := arbitrate (endHold h (cancel h d))

/-- The holder, where the slot holds the radio. -/
def holding (i : Fin 13) (d : Device) : Option Holder :=
  match d.arb.holder with
  | some h => if h.slot = i then some h else none
  | none => none

/-- Owner end of a slot, where it holds the radio (R77). -/
def endIfHolding (i : Fin 13) (d : Device) : Device :=
  match holding i d with
  | some h => ownerEnd h d
  | none => d

end Sys2Proof.Machine
end

