-- ==== Sys2Proof/Machine/Paging.lean ====
section
/-! DEFINITION. The paging states (R83, R87), the Recent Page List (R94), the Uplink Hold (R52, R53) and the
LINE-STATE notices (R60). -/

namespace Sys2Proof.Machine

/-! ### LINE-STATE notices (R60) -/

/-- A LINE-STATE notice of a line: the Subject is the serving entry index, or 0. -/
def lineNotice (l : LineId) (code : LineNotice) (d : Device) : Device :=
  let s := (d.line l).serving
  notify (some l) (s.elim 0 Fin.val) (.lineState s.isSome code) d

/-! ### Paging state (R83, R87) -/

/-- The primary identity: the lowest-numbered valid Permanent entry, or else the lowest-numbered valid one (R83). -/
def primaryOf (ids : Tab Identity 4) : Option (Fin 4) :=
  match (indexes 4).find? fun i => (ids.get i).valid && (ids.get i).kind == .permanent with
  | some i => some i
  | none => (indexes 4).find? fun i => (ids.get i).valid

/-- The line watches its occasions if it has a valid identity, and is Off otherwise (R83). -/
def enterWatching (l : LineId) (d : Device) : Device :=
  d.onPaging l fun p =>
    let i := primaryOf p.identities
    { p with primary := i, state := if i.isSome then .watching else .off }

/-- The paging state leaves Watching for another: a request that waits is released, and its watch ends without a
miss; a held window runs on with its watch (R87). A line whose paging is Off has no primary identity, and so no offset and no
request frame, until it watches again: the rules state no value there (DESIGN CHOICE, log entry 53). -/
def leaveWatching (next : PagingState) (l : LineId) (d : Device) : Device :=
  let was := (d.page l).state
  let slot := slotOf .paging l
  let d1 := d.onPaging l fun p => { p with state := next, primary := if next = .off then none else p.primary }
  if was = .watching ∧ (d.page l).watch ≠ none then
    if (slotState d slot).holds then d1
    else releaseSlot slot (endWatch l d1)
  else d1

/-- The line gives up its serving entry: paging is Off and the Recent Page List is emptied (R83, R94). -/
def pagingOff (l : LineId) (d : Device) : Device :=
  (leaveWatching .off l d).onPaging l fun p => { p with recent := [] }

/-! ### Recent Page List (R94) -/

/-- The items that have not run out; an item whose count has reached 0 has left (R94; log entry 19). -/
def liveRecent (l : LineId) (d : Device) : List RecentPage := (d.page l).recent.filter fun r => 0 < r.left

/-- The first item of the smallest hold count, removed. -/
def dropSmallest (q : List RecentPage) : List RecentPage :=
  let least := (q.map (·.left)).foldl min (q.headD ⟨0, .call, .answered, 0⟩).left
  eraseFirst (fun r => r.left == least) q

/-- An item joins: it starts at twice the paging cycle in effect, and a full list gives up its smallest (R94). -/
def joinRecent (l : LineId) (identity : BitVec 32) (dom : Domain) (out : PageOutcome) (d : Device) : Device :=
  let item : RecentPage := ⟨identity, dom, out, 2 * ((d.line l).cycle.getD 0)⟩
  d.onPaging l fun p =>
    let q := p.recent.filter fun r => 0 < r.left
    { p with recent := (if q.length < Config.recentCap then q else dropSmallest q) ++ [item] }

/-- A PAGE-ANSWER is lost: its item leaves, and the answers-lost count advances (R90). The item is found by identity and domain,
so where the answer's own item has left and a later one of the same identity and domain stands, that one leaves (DESIGN CHOICE,
log entry 48). -/
def answerLost (l : LineId) (identity : BitVec 32) (dom : Domain) (d : Device) : Device :=
  d.onPaging l fun p =>
    { p with
      recent := p.recent.filter fun r => !(r.identity == identity && r.domain == dom && r.outcome == .answered)
      counts := { p.counts with answersLost := satInc p.counts.answersLost } }

/-! ### Uplink Hold (R52, R53, R13) -/

/-- Set a line's Hold. -/
def setHold (l : LineId) (q : List ModemFrame) (d : Device) : Device := d.onLine l fun r => { r with hold := q }

/-- The Hold is emptied, oldest first: a host frame takes the Host lane and a PAGE-ANSWER the Device lane; a full
Host lane returns its frame to the head and pauses the emptying (R53, R90). A PAGE-ANSWER still moves once a host frame has filled
the Host lane: the emptying goes on until a host frame finds it full, also where R13 re-offers 'until the lane is full' (DESIGN
CHOICE, log entry 63). -/
def drainHold (l : LineId) : List ModemFrame → Device → Device
  | [], d => setHold l [] d
  | f :: rest, d =>
    match f.payload with
    | .pageAnswer identity dom _ _ =>
      match placeDevice f d with
      | (d1, true) => drainHold l rest d1
      | (d1, false) => drainHold l rest (answerLost l identity dom d1)
    | _ =>
      match placeHostLane f d with
      | (d1, true) => drainHold l rest d1
      | (d1, false) => setHold l (f :: rest) d1

/-- Empty a line's Hold (R53). -/
def emptyHold (l : LineId) (d : Device) : Device := drainHold l (d.line l).hold d

/-- The line's Hold is offered when a Host-lane frame leaves (R13). -/
def holdOffered (l : LineId) (d : Device) : Bool :=
  match d.lineState l with
  | .connected | .stopping => true
  | .camped => slotState d (slotOf .access l) == .active
  | _ => false

/-- A Host-lane frame has left its lane: the Holds are offered again, Line A's first (R13); how far is log entry 63. -/
def reofferHolds (d : Device) : Device :=
  LineId.all.foldl (fun d l => if holdOffered l d then emptyHold l d else d) d

/-- The Hold is discarded whole; the number of frames goes into the line's next LINE-STATE notice (R53, R60). -/
def discardHold (l : LineId) (d : Device) : Device :=
  d.onLine l fun r => { r with holdLost := r.holdLost + r.hold.length, hold := [] }

/-- A frame joins the Hold, if it has room (R52, R53). -/
def joinHold (l : LineId) (f : ModemFrame) (d : Device) : Device × Bool :=
  let q := (d.line l).hold
  if q.length < Config.holdCap then (setHold l (q ++ [f]) d, true) else (d, false)

/-- The ACCESS request of a Camped line whose Hold has taken a frame (R52). -/
def wantAccess (l : LineId) (d : Device) : Device :=
  if slotState d (slotOf .access l) = .idle then requestSlot (slotOf .access l) d else d

/-- A forwarded host frame as it stands in a lane or a Hold: it keeps its Line, Class and Tag (R3). -/
def forwardFrame (f : LinkFrame) : ModemFrame := { line := f.line, cls := f.cls, tag := f.tag, payload := .forwarded f }

/-- A host frame joins the Hold, or is discarded with a Hold Full notice (R52). -/
def holdOrRefuse (l : LineId) (f : LinkFrame) (d : Device) : Device × Bool :=
  match joinHold l (forwardFrame f) d with
  | (d1, true) => (d1, true)
  | (d1, false) => (lineNotice l (.holdFull f.fields.mtype f.tag) d1, false)

/-- A host frame goes to the Host lane at once when the Hold is empty; a full lane gives it back to the Hold (R13, R52). -/
def laneOrHold (l : LineId) (f : LinkFrame) (d : Device) : Device :=
  if (d.line l).hold = [] then
    match placeHostLane (forwardFrame f) d with
    | (d1, true) => d1
    | (d1, false) => (holdOrRefuse l f d1).1
  else (holdOrRefuse l f d).1

/-- The Line Controller takes a host SIGNAL frame by the state of its line (R52). -/
def uplink (l : LineId) (f : LinkFrame) (d : Device) : Device :=
  let refuse := lineNotice l (.refused (d.lineState l) f.fields.mtype f.tag) d
  match d.lineState l with
  | .connected => laneOrHold l f d
  | .camped =>
    if slotState d (slotOf .access l) = .active ∧ (d.line l).hold = [] then laneOrHold l f d
    else
      match holdOrRefuse l f d with
      | (d1, true) => wantAccess l d1
      | (d1, false) => d1
  | .moving => (holdOrRefuse l f d).1
  | .stopping =>
    if f.fields.mtype = .callClear ∨ f.fields.mtype = .clearDone then laneOrHold l f d else refuse
  | .off | .searching | .lost => refuse

end Sys2Proof.Machine
end

