-- ==== Sys2Proof/Machine/CallBase.lean ====
section
/-! DEFINITION. Parts of the Call Unit that the Line Controller asks for (chapter 7): CALL-STATE notices, guards, the
releases of R125, and the records that wait for a move's outcome (R111). -/

namespace Sys2Proof.Machine

/-- Change a line's call counts (R126). -/
def countCall (l : LineId) (f : CallCounts → CallCounts) (d : Device) : Device :=
  d.onCalls fun c => { c with counts := c.counts.upd l f }

/-- A record's tag as it stands in a frame (R109). -/
def tagOf (t : Fin 4) : Byte := BitVec.ofNat 8 t.val

/-- A record takes a new state, and its CALL-STATE notice is offered; `prev` is `none` for Free (R110). -/
def enterCall (t : Fin 4) (r : CallRec) (prev : Option CallState) (code : CallCode) (cause : Option CallNoticeCause)
    (d : Device) : Device :=
  notify (some r.line) t.val (.callState code (some r.dir) r.ref prev cause none) (setCall t (some r) d)

/-- A record becomes Free with a CALL-STATE Released notice (R110). -/
def freeCall (t : Fin 4) (r : CallRec) (cause : CallNoticeCause) (d : Device) : Device :=
  notify (some r.line) t.val (.callState .released (some r.dir) r.ref (some r.state) (some cause) none) (setCall t none d)

/-- A guard starts; on a Moving line it starts frozen (R122, R123). -/
def startGuard (l : LineId) (ms : Nat) (d : Device) : Guard :=
  if d.lineState l = .moving then .frozen ms else .running ms

/-- A CALL-CLEAR of the Call Unit's own is placed in the Device lane; one discarded there is counted. The flag says
that it was placed (R113, R122). -/
def sendClear (l : LineId) (tag : Byte) (ref : Nat) (cause : Cause) (d : Device) : Device × Bool :=
  match placeDevice (deviceSignal l tag (.callClear ref cause)) d with
  | (d1, true) => (d1, true)
  | (d1, false) => (countCall l (fun c => { c with clearsLost := satInc c.clearsLost }) d1, false)

/-- A record enters Clearing: the cause is kept, the guard is the clearing guard, and the notice is offered (R110, R122). -/
def enterClearing (t : Fin 4) (r : CallRec) (cause : Cause) (origin : Origin) (d : Device) : Device :=
  enterCall t
    { r with state := .clearing, clearing := some (cause, origin)
             guard := startGuard r.line Config.clearingGuardMs d, releasePending := none }
    (some r.state) .clearing (some (.clearing cause)) d

/-- The device clears a record: its CALL-CLEAR, and entry into Clearing with origin Device (R115, R122, R125). -/
def deviceClear (t : Fin 4) (r : CallRec) (cause : Cause) (d : Device) : Device :=
  enterClearing t r cause .device (sendClear r.line (tagOf t) r.ref cause d).1

/-- The records of a line, in tag order. -/
def callsOf (l : LineId) (d : Device) : List (Fin 4) :=
  (indexes 4).filter fun t =>
    match d.call t with
    | some r => r.line == l
    | none => false

/-- Clear all, at Stopping (R125). -/
def clearAll (l : LineId) (d : Device) : Device :=
  (callsOf l d).foldl (fun d t =>
    match d.call t with
    | some r => if r.state = .clearing then d else deviceClear t r .stopped d
    | none => d) d

/-- Release all, at Lost and at a modem restart of a Stopping line (R125). -/
def releaseAll (l : LineId) (d : Device) : Device :=
  (callsOf l d).foldl (fun d t =>
    match d.call t with
    | some r => freeCall t r .radioLoss d
    | none => d) d

/-- Change the guards of a line's records (R123). -/
def onGuards (l : LineId) (f : Guard → Guard) (d : Device) : Device :=
  d.onCalls fun c =>
    { c with
      recs := c.recs.all fun r =>
        match r with
        | some r => if r.line = l then some { r with guard := f r.guard } else some r
        | none => none }

/-- The guards of a line freeze at its entry into Moving (R123). -/
def freezeGuards (l : LineId) (d : Device) : Device :=
  onGuards l (fun g => match g with
    | .running n => .frozen n
    | g => g) d

/-- The guards of a line resume (R123). -/
def resumeGuards (l : LineId) (d : Device) : Device :=
  onGuards l (fun g => match g with
    | .frozen n => .running n
    | g => g) d

/-- The records of a line with release pending become Free (R111). -/
def freePending (l : LineId) (d : Device) : Device :=
  (callsOf l d).foldl (fun d t =>
    match d.call t with
    | some r =>
      match r.releasePending with
      | some cause => freeCall t r cause d
      | none => d
    | none => d) d

end Sys2Proof.Machine
end

