-- ==== Sys2Proof/Machine/Measure.lean ====
section
/-! DEFINITION. The Measurement Unit (chapter 8): entries and their marks, samples and the filter, rounds, report
triggers, ranking, and the start of a reselection (R158) that ranking may bring. -/

namespace Sys2Proof.Machine

/-! ### Entries (R127, R128, R130) -/

/-- An entry becomes Listed: every device field is cleared and its timers stop (R128). -/
def Entry.toListed (e : Entry) : Entry :=
  { e with
    state := .listed, filter := none, level := none, quality := none, misses := 0, lastFrame := none, penalty := none
    bar := none, trig := Pair.both ⟨0, false, 0⟩ }

/-- An entry becomes Free: as cleared, with no owner (R127, R129, R130). R128 states the clearing for becoming Listed alone: that
the miss count, the last sample frame and the penalty timer are cleared here too is the model's (DESIGN CHOICE, log entry 64). -/
def Entry.toFree (e : Entry) : Entry :=
  { e.toListed with state := .free, own := Pair.both false, servingFor := Pair.both false }

/-- A new Listed entry for a cell: owned by the line alone, Ocn and Qoff 0, both measure flags set (R46, R152). -/
def Entry.fresh (c : Cell) (l : LineId) : Entry :=
  { Entry.free with cell := c, own := (Pair.both false).upd l fun _ => true, state := .listed }

/-- No line owns the entry. -/
def Entry.unowned (e : Entry) : Bool := !e.own.a && !e.own.b

/-- The entry serves a line. -/
def Entry.serves (e : Entry) : Bool := e.servingFor.a || e.servingFor.b

/-- The lead owner: Line A when Line A owns the entry, and Line B otherwise (R131). -/
def Entry.leadOwner (e : Entry) : LineId := if e.own.a then .a else .b

/-- A line's owner mark is removed with its trigger count, Triggered mark and run count; an entry left with no owner
becomes Free (R130). -/
def Entry.disown (l : LineId) (e : Entry) : Entry :=
  let e' := { e with own := e.own.upd l fun _ => false, trig := e.trig.upd l fun _ => ⟨0, false, 0⟩ }
  if e.state ≠ .free ∧ e'.unowned then e'.toFree else e'

/-- The non-Free entry that holds a cell (R128: at most one). -/
def entryOf (c : Cell) (d : Device) : Option (Fin 24) :=
  (indexes 24).find? fun i => (d.entry i).state != .free && (d.entry i).cell == c

/-- The entry is the locked one. -/
def isLocked (i : Fin 24) (d : Device) : Bool :=
  match d.meas.lock with
  | some k => k.entry == i
  | none => false

/-- The lowest-indexed Free entry that is not locked (R130). -/
def freeEntry (d : Device) : Option (Fin 24) :=
  (indexes 24).find? fun i => (d.entry i).state == .free && !isLocked i d

/-- Mark serving: granted when the line owns the entry and it is neither Free nor Barred (R130). -/
def markServing (l : LineId) (i : Fin 24) (d : Device) : Device :=
  d.onEntry i fun e =>
    if e.own.get l && e.state.live then { e with servingFor := e.servingFor.upd l fun _ => true } else e

/-- Unmark serving: the entry keeps its owners and its filter state (R130). -/
def unmarkServing (l : LineId) (i : Fin 24) (d : Device) : Device :=
  d.onEntry i fun e => { e with servingFor := e.servingFor.upd l fun _ => false }

/-- Change every entry. -/
def onEntries (f : Entry → Entry) (d : Device) : Device := d.onMeas fun m => { m with entries := m.entries.all f }

/-- Clear a line's run counts (R145). -/
def clearRuns (l : LineId) (d : Device) : Device :=
  onEntries (fun e => { e with trig := e.trig.upd l fun t => { t with run := 0 } }) d

/-- Clear a line's trigger counts and Triggered marks (R141). -/
def clearTriggers (l : LineId) (d : Device) : Device :=
  onEntries (fun e => { e with trig := e.trig.upd l fun t => { t with count := 0, triggered := false } }) d

/-- Change a line's measurement counts. -/
def countMeas (l : LineId) (f : MeasCounts → MeasCounts) (d : Device) : Device :=
  d.onMeasLine l fun m => { m with counts := f m.counts }

/-! ### Samples and the filter (R137 to R140) -/

/-- The reported level of a filter value: F / 16 rounded to the nearest q, halves upward (R140). -/
def reportedLevel (f : Int) : Int := (f + 8) / 16

/-- One filter step with coefficient `k` toward a clamped level `s` (R139); `/` rounds toward minus infinity here. -/
def filterStep (k : Nat) (f s : Int) : Int :=
  let h : Int := if k = 0 then 0 else (2 : Int) ^ (k - 1)
  f + (s * 16 - f + h) / (2 : Int) ^ k

/-- A detected sample is applied: the first one after Listed or Stale sets F and starts the penalty timer, a later
one filters (R139). -/
def Entry.detected (p : LineParams) (s : Int) (q : Nat) (e : Entry) : Entry :=
  let start (f : Int) : Entry :=
    { e with
      state := .measured, filter := some f, level := some (reportedLevel f), quality := some q, misses := 0
      penalty := if p.penaltyTime = 0 then e.penalty else some (1000 * p.penaltyTime) }
  match e.state, e.filter with
  | .measured, some f =>
    let f' := filterStep p.coeffK f s
    { e with filter := some f', level := some (reportedLevel f'), quality := some q, misses := 0 }
  | _, _ => start (s * 16)

/-- A miss: the count is held at the miss limit, where a Measured entry becomes Stale (R138). A count that stands above a limit
lowered since drops to the new limit at the next miss (DESIGN CHOICE, log entry 51). -/
def Entry.missed (limit : Nat) (e : Entry) : Entry :=
  let n := min (e.misses + 1) limit
  { e with misses := n, state := if e.state = .measured ∧ limit ≤ n then .stale else e.state }

/-- A sample is applied to its entry, unless the entry is Barred or Free (R137 steps 7 and 9, R138, R139). -/
def applySample (i : Fin 24) (s : Parked) (d : Device) : Device :=
  let e := d.entry i
  if e.state.live then
    let p := d.params e.leadOwner
    let d1 := d.onEntry i fun e =>
      { (if s.detected then e.detected p s.level s.quality else e.missed p.missLimit) with
        lastFrame := some s.frameNo }
    if s.detected then d1 else countMeas s.line (fun c => { c with misses := satInc c.misses }) d1
  else d

/-- The samples-applied counts of the lines that own the entry (R149; log entry 24). -/
def countApplied (i : Fin 24) (d : Device) : Device :=
  LineId.all.foldl (fun d l =>
    if (d.entry i).own.get l then countMeas l (fun c => { c with applied := satInc c.applied }) d else d) d

/-! ### The lock (R147, R148) -/

/-- The parked sample of a lock that has cleared is applied, unless the entry is Free or its cell has changed (R147). For an entry
that was Barred while locked it is discarded too: step 9 of R137 is for an entry that is not Barred (DEDUCED, log entry 55). -/
def applyParked (k : Lock) (d : Device) : Device :=
  match k.parked with
  | some s => if (d.entry k.entry).cell = s.cell then applySample k.entry s d else d
  | none => d

/-- The lead owner for the splits count; Line A for an entry with owners none (R147). -/
def splitLine (e : Entry) : LineId := if e.unowned then .a else e.leadOwner

/-- A split: the lock clears, the parked sample is applied and W7 is raised (R147). -/
def splitLock (k : Lock) (d : Device) : Device :=
  let l := splitLine (d.entry k.entry)
  raise .w7 (fieldOf l) k.entry.val
    (countMeas l (fun c => { c with splits := satInc c.splits }) (applyParked k (setLock none d)))

/-! ### Report triggers (R141, R142, R143) -/

/-- Hys, TTT, report interval and amount in force: the overrides where present (R141, R142). -/
def reportSettings (l : LineId) (d : Device) : Overrides :=
  match (d.line l).overrides with
  | some o => o
  | none =>
    let p := d.params l
    ⟨p.hys, p.ttt, p.reportInterval, p.reportAmount⟩

/-- The table of R141 for one entry of a line, against the serving level `ls`. -/
def evalTrigger (l : LineId) (ls : Int) (hys ttt : Nat) (e : Entry) : Trigger :=
  let t := e.trig.get l
  match e.state, e.level with
  | .measured, some ln =>
    let v := ln + e.ocn.get l
    if ls + hys < v then
      if t.triggered then t
      else { t with count := min (t.count + 1) 15, triggered := decide (ttt ≤ t.count + 1) }
    else if v < ls - hys then { t with count := 0, triggered := false }
    else if t.triggered then t else { t with count := 0 }
  | _, _ => { t with count := 0, triggered := false }

/-- Trigger evaluation of a Connected line whose serving entry is Measured at level `ls`; the flag says that some
entry is newly Triggered (R141). -/
def evalTriggers (l : LineId) (serving : Fin 24) (ls : Int) (d : Device) : Device × Bool :=
  let o := reportSettings l d
  (indexes 24).foldl (fun (d, new) i =>
    let e := d.entry i
    if i ≠ serving ∧ e.own.get l = true then
      let t := evalTrigger l ls o.hys o.ttt e
      (d.onEntry i fun e => { e with trig := e.trig.upd l fun _ => t }, new || (t.triggered && !(e.trig.get l).triggered))
    else (d, new)) (d, false)

/-- Insert behind every item that is not smaller. -/
def insertDown (x : Int × Fin 24) : List (Int × Fin 24) → List (Int × Fin 24)
  | [] => [x]
  | y :: ys => if y.1 < x.1 then x :: y :: ys else y :: insertDown x ys

/-- The line's Triggered entries with their levels L_n + Ocn, in descending order, ties to the lower index (R143). -/
def triggeredEntries (l : LineId) (d : Device) : List (Int × Fin 24) :=
  ((indexes 24).filterMap fun i =>
    let e := d.entry i
    match e.level with
    | some ln => if e.own.get l && (e.trig.get l).triggered then some (ln + e.ocn.get l, i) else none
    | none => none).foldl (fun q x => insertDown x q) []

/-- The serving entry as a report gives it (R143). -/
def reportServing (e : Entry) : ReportServing := ⟨e.cell, e.level.getD 0, e.quality.getD 0⟩

/-- An entry as an item of a report gives it (R143). -/
def reportItem (e : Entry) : ReportItem := ⟨e.cell, e.level.getD 0, e.quality.getD 0, e.lastFrame⟩

/-- A MOVE-REPORT is placed in the Device lane; a discarded one is counted (R143). -/
def sendReport (l : LineId) (serving : Fin 24) (d : Device) : Device :=
  let items := ((triggeredEntries l d).take 4).map fun x => reportItem (d.entry x.2)
  let d1 := countMeas l (fun c => { c with reportsSent := satInc c.reportsSent }) d
  match placeDevice (deviceSignal l 255 (.moveReport (reportServing (d.entry serving)) items)) d1 with
  | (d2, true) => d2
  | (d2, false) => countMeas l (fun c => { c with reportsLost := satInc c.reportsLost }) d2

/-- Set a line's report state (R142). -/
def setReport (l : LineId) (sent since : Nat) (d : Device) : Device :=
  d.onMeasLine l fun m => { m with reportsSent := sent, roundsSince := since }

/-- The reporting decision after trigger evaluation (R142). Rounds since the last report stay at 60, the end of their range, once
they get there (DESIGN CHOICE, log entry 54). -/
def reportDecision (l : LineId) (serving : Fin 24) (new : Bool) (d : Device) : Device :=
  let o := reportSettings l d
  let m := d.measLine l
  if new then sendReport l serving (setReport l 1 0 d)
  else if triggeredEntries l d = [] then setReport l 0 0 d
  else
    let since := min (m.roundsSince + 1) 60
    if o.interval ≤ since ∧ m.reportsSent < o.amount then
      sendReport l serving (setReport l (m.reportsSent + 1) 0 d)
    else setReport l m.reportsSent since d

/-- A Connected line's evaluation at a round end: skipped unless the serving entry is Measured (R141). -/
def evaluateConnected (l : LineId) (d : Device) : Device :=
  match (d.line l).serving with
  | none => d
  | some s =>
    match (d.entry s).state, (d.entry s).level with
    | .measured, some ls =>
      let (d1, new) := evalTriggers l s ls d
      reportDecision l s new d1
    | _, _ => d

/-! ### Ranking (R145) -/

/-- R_n of a Measured, non-serving entry the line owns; `none` for any other (R145). -/
def rankOf (l : LineId) (d : Device) (i : Fin 24) : Option Int :=
  let e := d.entry i
  match e.state, e.level with
  | .measured, some ln =>
    if (d.line l).serving ≠ some i ∧ e.own.get l = true then
      some (ln - e.qoff - (if e.penalty.isSome then ((d.params l).penaltyP : Int) else 0))
    else none
  | _, _ => none

/-- The best-ranked candidate but for the entry to leave out, with its R_n; ties go to the lower index (R145, R159). -/
def bestCandidate (l : LineId) (out : Option (Fin 24)) (d : Device) : Option (Fin 24 × Int) :=
  (indexes 24).foldl (fun best i =>
    if out = some i then best
    else
      match rankOf l d i, best with
      | some r, none => some (i, r)
      | some r, some (j, rj) => if rj < r then some (i, r) else some (j, rj)
      | none, _ => best) none

/-! ### Schedule (R134, R135) -/

/-- How a Camped line is scheduled (R134). -/
def wantedSchedule (l : LineId) (d : Device) : Schedule :=
  if (d.page l).state ≠ .watching then .interval
  else match (d.params l).idleMode with
    | .cycleAligned => .cycleAligned
    | .interval => .interval
    | .mixed =>
      match (d.line l).cycle with
      | some c => if c ≤ (d.params l).mixedThreshold then .cycleAligned else .interval
      | none => .interval

/-- The schedule decision of a Camped line; while a reselection is in flight the schedule is paused (R134). -/
def decideSchedule (l : LineId) (d : Device) : Device :=
  if d.lineState l = .camped ∧ d.reselecting l = false then
    let s := wantedSchedule l d
    d.onMeasLine l fun m =>
      { m with
        sched := s
        timer := match s, m.timer with
          | .interval, .stopped => .running (d.params l).intervalM
          | .interval, t => t.resume
          | _, _ => .stopped }
  else d

/-- A MEASURE request that is Pending or Deferred is released (R134, R135). -/
def releaseMeasure (l : LineId) (d : Device) : Device :=
  if (slotState d (slotOf .measure l)).waits then releaseSlot (slotOf .measure l) d else d

/-! ### The start of a reselection (R158) -/

/-- A reselection of a Camped line to an entry starts (R158). -/
def startReselect (l : LineId) (trigger : MoveTrigger) (i : Fin 24) (d : Device) : Device :=
  match (d.line l).serving with
  | none => d
  | some s =>
    let m : MoveRec :=
      { kind := .reselect, trigger := trigger, phase := .waitingGrant, target := (d.entry i).cell, targetEntry := i
        oldEntry := s, oldCell := (d.entry s).cell, deadline := (d.params l).reselectDeadline, extended := false
        evicted := none, voiceDiscarded := 0, fallbackCause := none, barredAtReady := false }
    let d1 := d.onMove l fun mv => { mv with record := some m }
    let d2 := leaveWatching .suspended l d1
    let d3 := d2.onMeasLine l fun x => { x with timer := x.timer.freeze }
    let d4 := countMeas l (fun c => { c with reselections := satInc c.reselections }) (releaseMeasure l d3)
    requestSlot (slotOf .move l) d4

/-- Ranking at a Camped line's round end: skipped unless the serving entry is Measured (R145). -/
def evaluateCamped (l : LineId) (d : Device) : Device :=
  match (d.line l).serving with
  | none => d
  | some s =>
    match (d.entry s).state, (d.entry s).level with
    | .measured, some ls =>
      let rs := ls + ((d.line l).qhyst.getD 0 : Nat)
      match bestCandidate l none d with
      | none => clearRuns l d
      | some (i, rn) =>
        if rs < rn then
          let n := min (((d.entry i).trig.get l).run + 1) 15
          let d1 := (clearRuns l d).onEntry i fun e => { e with trig := e.trig.upd l fun t => { t with run := n } }
          if (d.params l).tresel ≤ n ∧ Config.minCampedRounds ≤ (d.line l).campedRounds then
            startReselect l .ranking i (clearRuns l d1)
          else d1
        else clearRuns l d
    | _, _ => d

/-! ### Rounds (R133) -/

/-- A round starts: its members are the line's set, unmarked (R133). -/
def startRound (l : LineId) (d : Device) : Device :=
  d.onMeasLine l fun m => { m with round := some ((measSet l d).map fun i => (i, false)) }

/-- Every remaining member is marked. -/
def roundComplete (r : List (Fin 24 × Bool)) : Bool := r != [] && r.all (·.2)

/-- The evaluation of a line at its round end, and the next round (R133). -/
def endRound (l : LineId) (d : Device) : Device :=
  let d1 := countMeas l (fun c => { c with rounds := satInc c.rounds }) d
  let d2 :=
    match d1.lineState l with
    | .connected => evaluateConnected l d1
    | .camped =>
      let d' := d1.onLine l fun r => { r with campedRounds := min (r.campedRounds + 1) 255 }
      if d'.reselecting l then d' else evaluateCamped l d'
    | _ => d1
  startRound l d2

/-- A line's round ends if it is complete (R133). -/
def checkRound (l : LineId) (d : Device) : Device :=
  match (d.measLine l).round with
  | some r => if roundComplete r then endRound l d else d
  | none => d

/-- Entries that have left a line's set leave its round, which may end it (R133). -/
def pruneRound (l : LineId) (d : Device) : Device :=
  checkRound l (d.onMeasLine l fun m => { m with round := m.round.map fun r => r.filter fun x => inSet l d x.1 })

/-- The membership changes that follow a change of the table, Line A's round first (R132, R133; log entry 26). -/
def pruneRounds (d : Device) : Device := pruneRound .b (pruneRound .a d)

/-- A sample for an entry marks it in the line's round (R133, R137). -/
def markRound (i : Fin 24) (l : LineId) (d : Device) : Device :=
  d.onMeasLine l fun m =>
    { m with round := m.round.map fun r => r.map fun x => if x.1 = i then (x.1, true) else x }

/-! ### A line's measurement by its state (R133, R134, R135, R141, R142, R145) -/

/-- At entry into Camped. The round starts once the schedule has been decided; neither depends on the other. -/
def measureCamped (l : LineId) (d : Device) : Device :=
  startRound l (decideSchedule l (clearRuns l (d.onMeasLine l fun m => { m with timer := .stopped })))

/-- At entry into Connected. -/
def measureConnected (l : LineId) (d : Device) : Device :=
  startRound l (setReport l 0 0 (clearTriggers l (d.onMeasLine l fun m =>
    { m with timer := .running (d.params l).intervalG, sched := .connected })))

/-- At entry into Moving (R135). -/
def measureMoving (l : LineId) (d : Device) : Device :=
  releaseMeasure l (d.onMeasLine l fun m => { m with timer := .stopped, sched := .none })

/-- At every exit to a state with no set (R133, R135). -/
def measureEnd (l : LineId) (d : Device) : Device :=
  d.onMeasLine l fun m => { m with round := none, timer := .stopped, sched := .none }

/-! ### Bars (R146) -/

/-- A bar request for an entry by a line; the flag says that the bar was applied (R146). A Barred entry holds no F,
level or quality (R127). -/
def barEntry (l : LineId) (i : Fin 24) (d : Device) : Device × Bool :=
  let e := d.entry i
  if e.state.live && !e.serves then
    (pruneRounds (d.onEntry i fun e =>
      { e with state := .barred, bar := some (1000 * (d.params l).barTime), penalty := none
               filter := none, level := none, quality := none, trig := Pair.both ⟨0, false, 0⟩ }), true)
  else (d.onEntry i fun e => { e with trig := e.trig.upd l fun t => { t with run := 0 } }, false)

end Sys2Proof.Machine
end

