-- ==== Sys2Proof/Machine/MoveBase.lean ====
section
/-! DEFINITION. The Move Unit's parts that other blocks ask for (chapter 9): target entries with eviction (R152), the
role swap (R155), results (R162) and abandonment (R160). -/

namespace Sys2Proof.Machine

/-- Change a line's move counts (R163). -/
def countMove (l : LineId) (f : MoveCounts → MoveCounts) (d : Device) : Device :=
  d.onMove l fun m => { m with counts := f m.counts }

/-- The MOVE slot of a line. -/
def moveSlot (l : LineId) : Fin 13 := slotOf .move l

/-! ### Target entries (R152) -/

/-- The entry is the target or the old serving entry of the other line's move record. -/
def usedByOther (l : LineId) (d : Device) (i : Fin 24) : Bool :=
  match d.moveRec l.other with
  | some m => m.targetEntry == i || m.oldEntry == i
  | none => false

/-- The entries that may be evicted for a target of a line (R152). -/
def eligible (l : LineId) (d : Device) : List (Fin 24) :=
  (indexes 24).filter fun i => !isLocked i d && !(d.entry i).serves && !usedByOther l d i

/-- The lowest reported level among entries, ties to the lower index. -/
def lowestLevel (d : Device) (c : List (Fin 24)) : Option (Fin 24) :=
  (c.foldl (fun best i =>
    match (d.entry i).level, best with
    | some n, none => some (i, n)
    | some n, some (j, m) => if n < m then some (i, n) else some (j, m)
    | none, _ => best) (none : Option (Fin 24 × Int))).map (·.1)

/-- The entry that an eviction takes: one without a reported level first, else the lowest level (R152). -/
def chooseEvicted (l : LineId) (d : Device) : Option (Fin 24) :=
  let c := eligible l d
  match c.find? fun i => (d.entry i).level.isNone with
  | some i => some i
  | none => lowestLevel d c

/-- An entry that has been rewritten leaves the rounds that held it (R132, R133). -/
def leaveRounds (i : Fin 24) (d : Device) : Device :=
  LineId.all.foldl (fun d l =>
    checkRound l (d.onMeasLine l fun m => { m with round := m.round.map fun r => r.filter fun x => x.1 ≠ i })) d

/-- What a request for a target entry gives: the table after it, the entry, and the cell that was evicted for it. -/
structure Allocation where
  dev : Device
  entry : Fin 24
  evicted : Option Evicted

/-- An entry for a move target, with the line as owner (R152). At least 20 entries are always eligible, so the last
case, which leaves the table as it is, does not arise (log entry 27). -/
def allocTarget (l : LineId) (c : Cell) (d : Device) : Option Allocation :=
  match entryOf c d with
  | some i =>
    some ⟨d.onEntry i fun e =>
      let e' := { e with own := e.own.upd l fun _ => true }
      if e.state = .barred then e'.toListed else e', i, none⟩
  | none =>
    match freeEntry d with
    | some i => some ⟨d.onEntry i fun _ => Entry.fresh c l, i, none⟩
    | none =>
      match chooseEvicted l d with
      | some i =>
        let e := d.entry i
        some ⟨countMove l (fun n => { n with evictions := satInc n.evictions })
          (leaveRounds i (d.onEntry i fun _ => Entry.fresh c l)), i, some ⟨e.cell, e.own⟩⟩
      | none => none

/-- The role swap of a line's move (R155). The round in course gives way to the new one: where the unmark takes its last unmarked
member from the set, no round end is counted (DESIGN CHOICE, log entry 65). -/
def roleSwap (l : LineId) (m : MoveRec) (d : Device) : Device :=
  match allocTarget l m.target d with
  | none => d
  | some a =>
    let ev : Option Evicted :=
      match a.evicted with
      | some e => some e
      | none => m.evicted
    let d1 := onMoveRec l (fun r => { r with targetEntry := a.entry, evicted := ev }) a.dev
    let d2 := markServing l a.entry (unmarkServing l m.oldEntry d1)
    let d3 := d2.onLine l fun r => { r with serving := some a.entry }
    startRound l (clearRuns l d3)

/-! ### Results (R162, R163) -/

/-- The count that an outcome advances (R163). -/
def countOutcome (kind : MoveKind) (code : MoveCode) (c : MoveCounts) : MoveCounts :=
  match kind, code with
  | .handover, .success => { c with succeeded := satInc c.succeeded }
  | .handover, .failed => { c with fellBack := satInc c.fellBack }
  | .handover, .lost => { c with handoversLost := satInc c.handoversLost }
  | .handover, .abandoned => c
  | .reselect, .success => { c with reselSucceeded := satInc c.reselSucceeded }
  | .reselect, .failed => { c with reselFailed := satInc c.reselFailed }
  | .reselect, .lost => { c with reselLost := satInc c.reselLost }
  | .reselect, .abandoned => { c with reselAbandoned := satInc c.reselAbandoned }

/-- The body of a move's result notice (R162). -/
def resultBody (m : MoveRec) (code : MoveCode) (cause : MoveCause) (bar : Bool) : NoticeBody :=
  match m.kind with
  | .handover => .moveResult code m.target m.oldCell cause m.voiceDiscarded m.evicted
  | .reselect => .reselectResult code m.trigger m.target m.oldCell cause bar m.evicted

/-- The move record of a line becomes absent. -/
def clearMove (l : LineId) (d : Device) : Device := d.onMove l fun m => { m with record := none }

/-- A move has its outcome: the result notice is offered, the outcome counted, and the record is absent (R150, R162). -/
def finishMove (l : LineId) (code : MoveCode) (cause : MoveCause) (bar : Bool) (d : Device) : Device :=
  match d.moveRec l with
  | none => d
  | some m =>
    countMove l (countOutcome m.kind code)
      (clearMove l (notify (some l) m.targetEntry.val (resultBody m code cause bar) d))

/-- The cause that a record in Fallback gives (R162). -/
def fallbackOf (m : MoveRec) : MoveCause :=
  match m.fallbackCause with
  | some c => .fallback c
  | none => .reached

/-- The Move Unit ends its window where it holds the radio, and otherwise gives up its request (R77, R160). -/
def endMoveWindow (l : LineId) (d : Device) : Device :=
  if (slotState d (moveSlot l)).holds then
    endIfHolding (moveSlot l) (d.onSlot (moveSlot l) fun s => { s with repeated := false })
  else releaseSlot (moveSlot l) d

/-- A reselection in flight is abandoned for a call (R160). -/
def abandonReselect (l : LineId) (d : Device) : Device :=
  if d.reselecting l then finishMove l .abandoned .call false (endMoveWindow l d) else d

end Sys2Proof.Machine
end

