-- ==== Sys2Proof/Machine/Texts.lean ====
section
/-! DEFINITION. The Text Assembly Unit (chapter 6): parts, answers, and whole and partial texts for the host. -/

namespace Sys2Proof.Machine

/-- Change a line's text counts (R108). -/
def countText (l : LineId) (f : TextCounts → TextCounts) (d : Device) : Device :=
  d.onText fun t => { t with counts := t.counts.upd l f }

/-- An Assembly Record. -/
def Device.text? (d : Device) (r : Fin 8) : Option TextRec := d.text.recs.get r

/-- Set an Assembly Record. -/
def setText (r : Fin 8) (x : Option TextRec) (d : Device) : Device :=
  d.onText fun t => { t with recs := t.recs.upd r fun _ => x }

/-- The lowest-numbered free slot of the Part Pool (R96). -/
def freeSlot (t : TextUnit) : Option (Fin 48) := (indexes 48).find? fun i => (t.pool.get i).isNone

/-- The lowest-numbered Free record (R97). -/
def freeRecord (t : TextUnit) : Option (Fin 8) := (indexes 8).find? fun r => (t.recs.get r).isNone

/-- The record on the assembly list for a line and sender reference (R97). -/
def findText (l : LineId) (sender : Half) (t : TextUnit) : Option (Fin 8) :=
  t.order.find? fun r =>
    match t.recs.get r with
    | some x => x.line = l ∧ x.sender = sender
    | none => false

/-- A record becomes Free: its slots return to the pool, and it leaves the assembly list (R96, R97). -/
def releaseText (r : Fin 8) (d : Device) : Device :=
  d.onText fun t =>
    { t with
      pool := t.pool.all fun s =>
        match s with
        | some p => if p.owner = r then none else some p
        | none => none
      recs := t.recs.upd r fun _ => none
      order := t.order.filter fun x => x ≠ r }

/-! ### TEXT notices (R102) -/

/-- Part numbers 1..total. -/
def partNumbers (total : Nat) : List Nat := (List.range total).map (· + 1)

/-- The payloads of the received parts joined in part-number order. -/
def joinedText (t : TextUnit) (x : TextRec) : List Byte :=
  x.parts.flatMap fun p =>
    match t.pool.get p.2 with
    | some s => s.bytes
    | none => []

/-- Whole seconds since the record was made, held at 65535 (R97). -/
def TextRec.age (x : TextRec) : Nat := min (x.ageMs / 1000) 65535

/-- The TEXT notice of a record (R102). -/
def textNotice (x : TextRec) (code : TextCode) (cause : TextCause) (d : Device) : HostFrame :=
  let have_ := x.parts.map (·.1)
  noticeFrame (some x.line) x.sender.toNat
    (.text code cause x.total have_.length ((partNumbers x.total).filter fun n => !(have_.contains n)) x.age
      (joinedText d.text x))

/-- A Complete record offers its Whole text; the flag says that the notice joined and the record is Free (R103). -/
def deliverWhole (r : Fin 8) (x : TextRec) (d : Device) : Device × Bool :=
  match offer (textNotice x .whole .complete d) d with
  | (d1, true) => (countText x.line (fun c => { c with whole := satInc c.whole }) (releaseText r d1), true)
  | (d1, false) => (d1, false)

/-- A Collecting record offers its Partial text once, and becomes Free (R105, R106). -/
def deliverPartial (r : Fin 8) (x : TextRec) (cause : TextCause) (d : Device) : Device :=
  match offer (textNotice x .partialText cause d) d with
  | (d1, true) => countText x.line (fun c => { c with partials := satInc c.partials }) (releaseText r d1)
  | (d1, false) => countText x.line (fun c => { c with lost := satInc c.lost }) (releaseText r d1)

/-- Offer the Complete records of a run of the assembly list until one is refused (R104). -/
def retryWhole : List (Fin 8) → Device → Device
  | [], d => d
  | r :: rest, d =>
    match d.text? r with
    | some x =>
      if x.state = .complete then
        match deliverWhole r x d with
        | (d1, true) => retryWhole rest d1
        | (d1, false) => d1
      else retryWhole rest d
    | none => retryWhole rest d

/-- A place in the Host-bound Queue has freed by transmission (R17, R104). -/
def placeFreed (d : Device) : Device := retryWhole d.text.order d

/-- A stop has taken effect on a line: its Collecting records are delivered in list order (R106). -/
def stopTexts (l : LineId) (d : Device) : Device :=
  d.text.order.foldl (fun d r =>
    match d.text? r with
    | some x => if x.line = l ∧ x.state = .collecting then deliverPartial r x .lineStopped d else d
    | none => d) d

/-! ### Parts from the network (R98 to R101) -/

/-- An answer to a part is placed in the Device lane; one discarded there is counted (R101). -/
def textAnswer (l : LineId) (p : ModemPayload) (d : Device) : Device :=
  match placeDevice (deviceSignal l 255 p) d with
  | (d1, true) => d1
  | (d1, false) => countText l (fun c => { c with answersLost := satInc c.answersLost }) d1

/-- A part is refused as Invalid (R98, R99). -/
def nackInvalid (l : LineId) (sender : Half) (n : Nat) (d : Device) : Device :=
  textAnswer l (.textNack sender n .invalid) (countText l (fun c => { c with nacksInvalid := satInc c.nacksInvalid }) d)

/-- A part is refused for want of room (R99, R100). -/
def nackFull (l : LineId) (sender : Half) (n : Nat) (d : Device) : Device :=
  textAnswer l (.textNack sender n .memoryFull) (countText l (fun c => { c with nacksFull := satInc c.nacksFull }) d)

/-- A part takes its place in a slot list kept in part-number order (R97). -/
def insertPart (p : Nat × Fin 48) : List (Nat × Fin 48) → List (Nat × Fin 48)
  | [] => [p]
  | q :: qs => if p.1 < q.1 then p :: q :: qs else q :: insertPart p qs

/-- Every part is in hand. -/
def TextRec.full (x : TextRec) : Bool := (partNumbers x.total).all fun n => (x.parts.map (·.1)).contains n

/-- Store a part in a free slot and acknowledge it; a record that is then full is Complete and is offered (R99, R103). -/
def storePart (r : Fin 8) (x : TextRec) (slot : Fin 48) (n : Nat) (bytes : List Byte) (d : Device) : Device :=
  let x1 := { x with parts := insertPart (n, slot) x.parts }
  let x2 : TextRec := if x1.full then { x1 with state := .complete, timer := none } else x1
  let d1 := d.onText fun t =>
    { t with pool := t.pool.upd slot fun _ => some ⟨r, bytes⟩, recs := t.recs.upd r fun _ => some x2 }
  let d2 := textAnswer x.line (.textAck x.sender n) (countText x.line (fun c => { c with stored := satInc c.stored }) d1)
  if x1.full then (deliverWhole r x2 d2).1 else d2

/-- A part that has passed the tests of R98 (R99, R100). -/
def takePart (l : LineId) (sender : Half) (total n : Nat) (bytes : List Byte) (d : Device) : Device :=
  match findText l sender d.text with
  | some r =>
    match d.text? r with
    | none => d
    | some x =>
      if x.total ≠ total then nackInvalid l sender n d
      else if (x.parts.map (·.1)).contains n then
        textAnswer l (.textAck sender n) (countText l (fun c => { c with duplicates := satInc c.duplicates }) d)
      else
        match freeSlot d.text with
        | some slot => storePart r x slot n bytes d
        | none => nackFull l sender n d
  | none =>
    match freeRecord d.text, freeSlot d.text with
    | some r, some slot =>
      let x : TextRec :=
        { state := .collecting, line := l, sender := sender, total := total, parts := [], ageMs := 0
          timer := some (1000 * (d.params l).assemblyTimeout) }
      storePart r x slot n bytes (d.onText fun t => { t with order := t.order ++ [r] })
    | _, _ => nackFull l sender n d

/-- The line states in which parts are taken: Camped, Connected and Moving (R98). -/
def LineState.inService (st : LineState) : Bool := st == .camped || st == .connected || st == .moving

/-- The ranges of R98. -/
def partInRange (total n : Nat) (bytes : List Byte) : Bool :=
  decide (1 ≤ total ∧ total ≤ 16 ∧ 1 ≤ n ∧ n ≤ 16 ∧ n ≤ total ∧ 1 ≤ bytes.length ∧ bytes.length ≤ 160)

/-- A TEXT-PART from the network (R98). -/
def textPart (f : LinkFrame) (d : Device) : Device :=
  match f.fields.sender, f.fields.total, f.fields.part, f.fields.text with
  | some sender, some total, some n, some bytes =>
    match LineId.ofField f.line with
    | none => d
    | some l =>
      if (d.lineState l).inService = false then
        countText l (fun c => { c with refusedByState := satInc c.refusedByState }) d
      else if partInRange total n bytes then takePart l sender total n bytes d
      else nackInvalid l sender n d
  | _, _, _, _ => raise .w1 f.line 0 d

/-- A host TEXT-PART under Track is counted (R107). -/
def observePart (l : LineId) (d : Device) : Device := countText l (fun c => { c with uplink := satInc c.uplink }) d

/-- The assembly timer of a Collecting record expires (R105). -/
def assemblyExpired (r : Fin 8) (d : Device) : Device :=
  match d.text? r with
  | some x => deliverPartial r x .timeout d
  | none => d

end Sys2Proof.Machine
end

