-- ==== Sys2Proof/Machine/Lines.lean ====
section
/-! DEFINITION. The Line Controller (chapter 3): search, camping, calls taken and freed, stops, loss, and the status of
the serving cell's sync. -/

namespace Sys2Proof.Machine

/-! ### Serving entries (R41) -/

/-- A line gives up its serving entry, with the cycle, the Qhyst and the Serving Barred flag; its paging is Off, its
Recent Page List is emptied and its measurement ends (R41, R83, R94, R133, R135). A waiting PAGING request is left to the
caller: it is withdrawn at Lost and at a stop, and released at Searching (R87). -/
def giveUpServing (l : LineId) (d : Device) : Device :=
  let d1 :=
    match (d.line l).serving with
    | some i => unmarkServing l i d
    | none => d
  let d2 := d1.onLine l fun r => { r with serving := none, servingBarred := false, cycle := none, qhyst := none }
  let d3 := d2.onPaging l fun p => { p with state := .off, primary := none, recent := [] }
  measureEnd l d3

/-- The Hold frames counted for a LINE-STATE notice have been reported (R60). -/
def reported (l : LineId) (d : Device) : Device := d.onLine l fun r => { r with holdLost := 0 }

/-! ### Search (R44, R45, R47, R49) -/

/-- The channel list of R45, with the last entry whose channel was added: entries in the order given, up to 8 channels,
each once. -/
def buildChannels (l : LineId) (d : Device) : List (Fin 24) → List Nat → Fin 24 → List Nat × Fin 24
  | [], q, p => (q, p)
  | i :: is, q, p =>
    let e := d.entry i
    if q.length < 8 ∧ e.own.get l = true ∧ e.state.live = true ∧ !(q.contains e.cell.channel) then
      buildChannels l d is (q ++ [e.cell.channel]) i
    else buildChannels l d is q p

/-- A search ends without a candidate (R49). -/
def searchFailed (l : LineId) (d : Device) : Device :=
  let r := d.line l
  let d1 :=
    if r.noServiceSent then d
    else reported l (lineNotice l (.noService r.found.length r.holdLost) d)
  d1.onLine l fun x =>
    { x with noServiceSent := true, retry := some (1000 * (d.params l).searchInterval), found := [] }

/-- A search request (R45). -/
def searchRequest (l : LineId) (d : Device) : Device :=
  let pos := (d.line l).searchPos
  match buildChannels l d (indexesAfter pos) [] pos with
  | ([], _) => searchFailed l d
  | (q, p) => requestSlot (slotOf .search l) (d.onLine l fun r => { r with searchPos := p, searchList := q })

/-- Entry into Searching: its own SEARCH request that still waits is kept (R44, R53, R87). -/
def enterSearching (l : LineId) (d : Device) : Device :=
  let d1 := setLineState l .searching d
  let d2 := giveUpServing l (leaveWatching .off l d1)
  let d3 := discardHold l (d2.onLine l fun r => { r with radioLink := .stopped, noServiceSent := false })
  if (slotState d3 (slotOf .search l)).waits then d3 else searchRequest l d3

/-- The entry of a found item, where it still is a candidate's entry (R47). -/
def foundEntry (l : LineId) (d : Device) (x : FoundCell) : Option (Fin 24) :=
  match x.entry with
  | some i =>
    let e := d.entry i
    if e.state.live && e.cell == x.cell && e.own.get l then some i else none
  | none => none

/-- The candidate of a search end: the highest level, ties to the lower entry index (R47). -/
def searchChoice (l : LineId) (d : Device) : Option (FoundCell × Fin 24) :=
  ((d.line l).found.foldl (fun best x =>
    match x.barred, foundEntry l d x, x.level with
    | false, some i, some n =>
      match best with
      | none => some (x, i, n)
      | some (y, j, m) => if m < n ∨ (m = n ∧ i.val < j.val) then some (x, i, n) else some (y, j, m)
    | _, _, _ => best) (none : Option (FoundCell × Fin 24 × Int))).map fun b => (b.1, b.2.1)

/-- The smaller of the requested paging cycle and the carried one (R48, R50). -/
def cycleInEffect (l : LineId) (carried : Nat) (d : Device) : Nat := min (d.params l).requestedCycle carried

/-- The line camps on a chosen cell (R48, R83). -/
def camp (l : LineId) (x : FoundCell) (i : Fin 24) (d : Device) : Device :=
  let d1 := markServing l i (setLineState l .camped d)
  let c := cycleInEffect l x.cycle d
  let d2 := d1.onLine l fun r =>
    { r with
      serving := some i, servingBarred := false, qhyst := some x.qhyst, cycle := some c
      frame := x.frameNo + (r.frame - x.counter), campedRounds := 0, retry := none, lossCause := none, found := []
      holdLost := 0 }
  let d3 := enterWatching l (lineNotice l (.camped x.cell c) d2)
  let d4 := measureCamped l d3
  if (d4.page l).state = .off then lineNotice l (.pagingOff 0) d4 else d4

/-- A search window has ended, by DONE or by overrun (R47). -/
def searchEnd (l : LineId) (d : Device) : Device :=
  match searchChoice l d with
  | some (x, i) => camp l x i d
  | none => searchFailed l d

/-! ### Serving barred (R50, R158) -/

/-- A Camped line's serving cell is barred: a reselection to the best candidate but `out`, or Searching (R50, R158, R159). -/
def actOnBarred (l : LineId) (out : Option (Fin 24)) (d : Device) : Device :=
  if d.reselecting l then d
  else
    match bestCandidate l out d with
    | some (i, _) => startReselect l .barredServing i d
    | none => enterSearching l d

/-! ### Calls taken and freed (R51, R56) -/

/-- First record taken on a Camped line: it enters Connected (R51, R160). -/
def lineConnected (l : LineId) (d : Device) : Device :=
  let d1 := emptyHold l (setLineState l .connected (abandonReselect l d))
  let access := slotOf .access l
  let d2 := if (slotState d1 access).waits then withdrawSlots [access] d1 else d1
  measureConnected l (leaveWatching .off l (requestTraffic l d2))

/-- First record taken (R51, R111). -/
def firstRecordTaken (l : LineId) (d : Device) : Device :=
  if d.lineState l = .camped then lineConnected l d else d

/-- The line enters Off: the rest of a stop, and its LINE-STATE Off notice (R53, R55, R56, R60). -/
def offNotice (l : LineId) (d : Device) : Device :=
  reported l (lineNotice l (.off (d.line l).holdLost) d)

/-- A Stopping line enters Off (R56, R59). -/
def stoppingEnds (l : LineId) (d : Device) : Device :=
  let d1 := releaseSlot (slotOf .traffic l) (setLineState l .off d)
  offNotice l (discardHold l d1)

/-- Last record freed (R51, R56). -/
def lastRecordFreed (l : LineId) (d : Device) : Device :=
  match d.lineState l with
  | .connected =>
    let d1 := (setLineState l .camped d).onLine l fun r => { r with overrides := none, campedRounds := 0 }
    let d2 := measureCamped l (enterWatching l (releaseSlot (slotOf .traffic l) d1))
    if (d2.line l).servingBarred then actOnBarred l none d2 else d2
  | .stopping => stoppingEnds l d
  | _ => d

/-! ### Stops (R54, R55) -/

/-- A CALL-CLEAR or CLEAR-DONE from the host, which a Stopping line's Hold keeps (R52, R53). -/
def isClearing (f : ModemFrame) : Bool :=
  match f.payload with
  | .forwarded g => g.fields.mtype == .callClear || g.fields.mtype == .clearDone
  | _ => false

/-- At entry into Stopping the Hold keeps its clearing frames alone, and they are offered (R53). -/
def stoppingHold (l : LineId) (d : Device) : Device :=
  emptyHold l (d.onLine l fun r =>
    let kept := r.hold.filter isClearing
    { r with hold := kept, holdLost := r.holdLost + (r.hold.length - kept.length) })

/-- The slots that a stop withdraws: those that wait, but for TRAFFIC when the line enters Stopping (R55). -/
def stopSlots (l : LineId) (stopping : Bool) (d : Device) : List (Fin 13) :=
  (slotsOf l).filter fun i => (slotState d i).waits && !(stopping && i == slotOf .traffic l)

/-- A stop takes effect on a line: Connected enters Stopping, every other state enters Off (R54, R55). -/
def stopTakesEffect (l : LineId) (d : Device) : Device :=
  let stopping := d.lineState l == .connected
  let d1 := setLineState l (if stopping then .stopping else .off) (reported l d)
  let d2 := if d1.reselecting l then clearMove l d1 else d1
  let d3 := withdrawSlots (stopSlots l stopping d2) d2
  let held := (slotState d3 (slotOf .search l)).holds
  let d4 := d3.onLine l fun r =>
    { r with
      retry := none, radioLink := .stopped, overrides := none, deferredStop := false, lossCause := none
      staleSearch := r.staleSearch || held }
  let d5 := giveUpServing l d4
  let d6 := if stopping then stoppingHold l d5 else discardHold l d5
  let d7 := pruneRounds (onEntries (Entry.disown l) (stopTexts l d6))
  if stopping then clearAll l d7 else offNotice l d7

/-- A Line Stop of a line, by command or by a fault's action (R54). -/
def lineStop (l : LineId) (d : Device) : Device :=
  match d.lineState l with
  | .off | .stopping => d
  | .moving => d.onLine l fun r => { r with deferredStop := true }
  | .searching | .camped | .connected | .lost => stopTakesEffect l d

/-- The Stop Lines action of F5 and F6 (R182). Line A is stopped to the end before Line B: the rules give no order (DESIGN CHOICE,
log entry 46). -/
def stopLines (d : Device) : Device := LineId.all.foldl (fun d l => lineStop l d) d

/-! ### Loss (R58) -/

/-- The line's frames in the Host lane are discarded, and the Holds are offered the room (R13, R14). -/
def discardHostLane (l : LineId) (d : Device) : Device :=
  let keep := d.modem.hostLane.filter fun f => LineId.ofField f.line ≠ some l
  if keep.length < d.modem.hostLane.length then
    reofferHolds (d.onModem fun m => { m with hostLane := keep })
  else d

/-- Entry into Lost, up to its LINE-STATE notice (R58). -/
def lostCore (l : LineId) (cause : LossCause) (d : Device) : Device :=
  let d1 := giveUpServing l ((setLineState l .lost d).onLine l fun r => { r with radioLink := .stopped })
  let d2 := discardHold l (d1.onLine l fun r => { r with overrides := none })
  let d3 := releaseAll l (withdrawSlots (slotsOf l) (discardHostLane l d2))
  let d4 := d3.onLine l fun r => { r with lossCause := some cause, staleSearch := false }
  reported l (lineNotice l (.lost cause (d4.line l).holdLost) d4)

/-- The state after Lost for the causes that do not wait for an action: Searching, or Off with the deferred stop set (R58). -/
def leaveLost (l : LineId) (d : Device) : Device :=
  if (d.line l).deferredStop then stopTakesEffect l d else enterSearching l d

/-- Loss with cause Sync: F4, and its action (R58, R182). -/
def lostSync (l : LineId) (d : Device) : Device :=
  let d1 := raise .f4 (fieldOf l) 0 (lostCore l .sync d)
  if (d1.line l).deferredStop then stopTakesEffect l d1
  else
    match (d1.cond .f4).action with
    | .search => enterSearching l d1
    | .stop => stopTakesEffect l d1
    | _ => d1

/-- Loss with cause Move: F3 (R58, R157). -/
def lostMove (l : LineId) (d : Device) : Device := leaveLost l (raise .f3 (fieldOf l) 0 (lostCore l .move d))

/-- Loss with cause Restart; F6 comes after every line's transition (R58, R59). -/
def lostRestart (l : LineId) (d : Device) : Device := leaveLost l (lostCore l .restart d)

/-- A Camped or Connected line loses its serving cell: a reselection in flight ends with a RESELECT-RESULT Lost before
the loss (R57, R160). -/
def servingLost (l : LineId) (d : Device) : Device :=
  lostSync l (if d.reselecting l then finishMove l .lost .oldCellLost false d else d)

/-! ### Sync of the serving cell (R57) -/

/-- The reselection of a line has left Waiting Grant. -/
def reselectTuned (l : LineId) (d : Device) : Bool :=
  match d.moveRec l with
  | some m => m.kind == .reselect && m.phase != .waitingGrant
  | none => false

/-- A SYNC-LOST for a line's serving cell (R57). -/
def servingSyncLost (l : LineId) (d : Device) : Device :=
  match d.lineState l with
  | .camped => if reselectTuned l d then d else servingLost l d
  | .connected =>
    d.onLine l fun r =>
      { r with radioLink := match r.radioLink with
          | .running n => .running n
          | _ => .running r.params.radioLinkTimeout }
  | _ => d

/-- A SYNC-FOUND for a line's serving cell (R57). -/
def servingSyncFound (l : LineId) (d : Device) : Device :=
  if d.lineState l = .connected then d.onLine l fun r => { r with radioLink := .stopped } else d

/-- The Line Controller takes a sync status for each line whose serving cell it names (R57). Where it serves both, Line A acts to
the end before Line B: the rule gives no order (DESIGN CHOICE, log entry 46). -/
def lineSync (f : LineId → Device → Device) (c : Cell) (d : Device) : Device :=
  LineId.all.foldl (fun d l => if d.servingCell l = some c then f l d else d) d

/-! ### Frame Counter and serving update (R42, R50) -/

/-- The Frame Counter takes a frame number carried by the serving cell (R42). -/
def setFrame (l : LineId) (n : FrameNo) (d : Device) : Device := d.onLine l fun r => { r with frame := n }

/-- What a CELL-INFO carries, read whole (R46, R50). -/
structure CellInfo where
  cell : Cell
  frameNo : FrameNo
  barred : Bool
  cycle : Nat
  qhyst : Nat

/-- The CELL-INFO of a payload that holds its fields (log entry 11). -/
def cellInfoOf (f : Fields) : Option CellInfo :=
  match f.cell, f.frameNo, f.barred, f.cycle, f.qhyst with
  | some c, some n, some b, some y, some q => some ⟨c, n, b, y, q⟩
  | _, _, _, _, _ => none

/-- A serving update, without what a newly set barred flag brings (R50). The schedule is decided again where the cycle
in effect changes (R134). -/
def servingUpdate (l : LineId) (x : CellInfo) (d : Device) : Device :=
  let c := cycleInEffect l x.cycle d
  let d1 := d.onLine l fun r =>
    { r with frame := x.frameNo, qhyst := some x.qhyst, servingBarred := x.barred, cycle := some c }
  if (d.line l).cycle = some c then d1 else decideSchedule l d1

/-- A CELL-INFO's cell joins the found list: its entry is asked for (R46, R130). Its 'arrival', at which the Frame Counter is read,
is taken to be at the Line Controller, when dispatch hands the frame over (DEDUCED, log entry 45). -/
def joinFound (l : LineId) (x : CellInfo) (d : Device) : Device :=
  let item (i : Option (Fin 24)) : FoundCell :=
    ⟨x.cell, i, x.barred, x.cycle, x.qhyst, x.frameNo, (d.line l).frame, none⟩
  let push (i : Option (Fin 24)) (d : Device) : Device := d.onLine l fun r => { r with found := r.found ++ [item i] }
  match entryOf x.cell d with
  | some i => push (some i) (d.onEntry i fun e => { e with own := e.own.upd l fun _ => true })
  | none =>
    match freeEntry d with
    | some i => push (some i) (d.onEntry i fun _ => Entry.fresh x.cell l)
    | none => push none d

/-- A CELL-INFO of a Searching line in its SEARCH window (R46). -/
def foundCellInfo (l : LineId) (x : CellInfo) (d : Device) : Device :=
  let q := (d.line l).found
  if q.any fun y => y.cell == x.cell then
    d.onLine l fun r =>
      { r with found := r.found.map fun y =>
          if y.cell = x.cell then
            { y with barred := x.barred, cycle := x.cycle, qhyst := x.qhyst, frameNo := x.frameNo, counter := r.frame }
          else y }
  else if q.length < Config.foundCap then joinFound l x d
  else d

/-- A detected sample of a found cell gives the item its level (R46, R137). -/
def foundSample (l : LineId) (c : Cell) (s : Int) (d : Device) : Device :=
  d.onLine l fun r => { r with found := r.found.map fun y => if y.cell = c then { y with level := some s } else y }

end Sys2Proof.Machine
end

