-- ==== Sys2Proof/Machine/Sleep.lean ====
section
/-! DEFINITION. The Sleep Controller's steps (chapter 10): host arrivals, entry into sleep, the end of a host-bound
transmission, and the wake-response timer. -/

namespace Sys2Proof.Machine

/-! ### Host arrivals (R165, R169) -/

/-- The host has left sleep (R169). -/
def exitSleep (d : Device) : Device :=
  restartIdle (d.onSleep fun s =>
    { s with
      power := .awake, wake := false, repulse := none, guard := none, maxSleep := none, response := none
      lastSleep := some ⟨s.reasons, s.repulses, min s.asleepMs 65535000⟩, reasons := [], repulses := 0
      settings := if s.settings.exitClears then
          { s.settings with enables := ⟨false, false, false, false, false, false⟩ }
        else s.settings })

/-- A host arrival (R165, R169). In Awake it clears entry pending first and restarts the idle timer then, so the timer may start at
that arrival: no rule orders the two (DESIGN CHOICE, log entry 62). -/
def hostArrival (d : Device) : Device :=
  match d.sleep.power with
  | .asleep | .waking => exitSleep d
  | .offered => restartIdle (d.onSleep fun s => { s with power := .awake })
  | .awake => restartIdle (d.onSleep fun s => { s with entry := .clear })

/-- A frame from the host has passed the intake checks: its Link Count is recorded, and it is a host arrival (R4, R5). -/
def hostAccepted (count : Half) (d : Device) : Device :=
  hostArrival (d.onHost fun h => { h with lastCount := some count })

/-! ### Entering sleep (R166) -/

/-- The time of a wake guard code, `none` for code 0 (R164). -/
def guardTime (code : Nat) : Option Nat := if code = 0 then none else some (2 ^ (code - 1))

/-- The host becomes Asleep: its timers start, and the frames in the queue are taken as though they joined now (R166). -/
def fallAsleep (d : Device) : Device :=
  let d1 := d.onSleep fun s =>
    { s with
      power := .asleep, entry := .clear, idle := none, guard := guardTime s.settings.guardCode
      maxSleep := if s.settings.maxSleep = 0 then none else some (1000 * s.settings.maxSleep), asleepMs := 0 }
  d1.host.queue.foldl (fun d f => wakeReport f d) d1

/-- The end of a host-bound transmission is reported; a voice frame's is not (R20, R21, R165, R166). The REPLY to a Sleep Enter whose
entry was cleared meanwhile is then a host-bound frame like any other, whose end restarts the idle timer (DEDUCED, log entry 56). -/
def frameSent (f : HostFrame) (d : Device) : Device :=
  if f.payload.kind = .voice then d
  else if f.isSleepEnterReply ∧ d.sleep.entry = .sending then fallAsleep d
  else
    match d.sleep.power with
    | .awake => restartIdle d
    | .offered | .asleep | .waking => d

/-! ### The WAKE output (R171) -/

/-- The wake-response timer expires: a re-pulse, and at the third one F5 and its action (R171, R182). -/
def wakeUnanswered (d : Device) : Device :=
  let n := d.sleep.repulses + 1
  let d1 := d.onSleep fun s =>
    { s with
      wake := false, repulse := some 1, repulses := n
      response := if n < 3 then some s.settings.responseTime else none }
  if n < 3 then d1
  else
    let d2 := raise .f5 0 0 d1
    if (d2.cond .f5).action = .stopLines then stopLines d2 else d2

end Sys2Proof.Machine
end

