-- ==== Sys2Proof/Machine/Calls.lean ====
section
/-! DEFINITION. The Call Unit (chapter 7): each call message of either side, the guards, and the voice gate. -/

namespace Sys2Proof.Machine

/-- A CALL-STATE notice that concerns no record (R110). -/
def strayNotice (l : LineId) (code : CallCode) (dir : Option Direction) (ref : Nat) (cause : CallNoticeCause)
    (refused : Option (MsgType × Byte)) (d : Device) : Device :=
  notify (some l) 255 (.callState code dir ref none (some cause) refused) d

/-- The first Free record of the Call Table (R109). -/
def freeTag (d : Device) : Option (Fin 4) := (indexes 4).find? fun t => (d.call t).isNone

/-! ### Records made and freed (R111) -/

/-- A new record is made in a Free one. The Line Controller is told of a first record, and the notice follows (R111,
R113, R118). -/
def makeCall (t : Fin 4) (r : CallRec) (code : CallCode) (d : Device) : Device :=
  let first := callsOf r.line d == []
  let d1 := setCall t (some r) d
  let d2 := if first then firstRecordTaken r.line d1 else d1
  notify (some r.line) t.val (.callState code (some r.dir) r.ref none none none) d2

/-- An event would free a record: on a Moving line the last one waits with release pending; otherwise it becomes Free,
and the last one is reported (R111). A record with release pending that is its line's last no longer, since another was made
during the move, becomes Free at a later such event with that event's cause (DESIGN CHOICE, log entry 50). -/
def releaseCall (t : Fin 4) (r : CallRec) (cause : CallNoticeCause) (d : Device) : Device :=
  if d.lineState r.line = .moving ∧ callsOf r.line d = [t] then
    if r.releasePending.isSome then d
    else setCall t (some { r with releasePending := some cause, guard := .stopped }) d
  else
    let d1 := freeCall t r cause d
    if callsOf r.line d1 = [] then lastRecordFreed r.line d1 else d1

/-! ### The single-Active rule (R112) -/

/-- Another record in Active. -/
def otherActive (t : Fin 4) (d : Device) : Option (Fin 4) :=
  (indexes 4).find? fun u =>
    u != t &&
    match d.call u with
    | some r => r.state == .active
    | none => false

/-- An Active record is put on Held by the device, with a CALL-HOLD (R112). -/
def deviceHold (u : Fin 4) (d : Device) : Device :=
  match d.call u with
  | none => d
  | some r =>
    let d1 := enterCall u { r with state := .held, guard := .stopped } (some r.state) .held none d
    match placeDevice (deviceSignal r.line (tagOf u) (.callHold r.ref)) d1 with
    | (d2, true) => d2
    | (d2, false) => countCall r.line (fun c => { c with holdsLost := satInc c.holdsLost }) d2

/-- A record enters Active by CALL-CONNECT or CALL-ANSWER (R112). -/
def makeActive (t : Fin 4) (r : CallRec) (d : Device) : Device :=
  let d1 :=
    match otherActive t d with
    | some u => deviceHold u d
    | none => d
  enterCall t { r with state := .active, guard := .stopped } (some r.state) .active none d1

/-! ### Messages from the network (R113 to R117) -/

/-- A stray message is counted (R114, R115, R116). -/
def stray (l : LineId) (d : Device) : Device := countCall l (fun c => { c with stray := satInc c.stray }) d

/-- A CROSS-PAGE notice is offered and counted (R91, R95). -/
def crossPage (l : LineId) (subject : Nat) (code : CrossCode) (identity : BitVec 32) (busySent : Bool) (d : Device) : Device :=
  notify (some l) subject
    (.crossPage code identity (d.lineState l.other) ((d.servingCell l).getD ⟨0, 0⟩) busySent)
    (d.onPaging l fun p => { p with counts := { p.counts with crossReported := satInc p.counts.crossReported } })

/-- The busy answer to an offer (R93). -/
def busyAnswer (l : LineId) (ref : Nat) (d : Device) : Device :=
  match sendClear l 255 ref .busy d with
  | (d1, placed) => crossPage l ref .offer 0 placed d1

/-- A CALL-OFFER (R113). -/
def callOffer (l : LineId) (ref : Nat) (d : Device) : Device :=
  match d.lineState l with
  | .off | .searching | .lost => countCall l (fun c => { c with offersDiscarded := satInc c.offersDiscarded }) d
  | .stopping => (sendClear l 255 ref .stopped d).1
  | .camped | .connected | .moving =>
    if d.carriesCall l.other then busyAnswer l ref d
    else if (findCall l ref d).isSome then countCall l (fun c => { c with duplicates := satInc c.duplicates }) d
    else
      match freeTag d with
      | none =>
        strayNotice l .rejected (some .incoming) ref .full none
          (countCall l (fun c => { c with offersRejected := satInc c.offersRejected }) (sendClear l 255 ref .busy d).1)
      | some t =>
        makeCall t
          { line := l, dir := .incoming, ref := ref, state := .offered
            guard := startGuard l (1000 * (d.params l).offerGuard) d, clearing := none, releasePending := none }
          .offered (countCall l (fun c => { c with offersTaken := satInc c.offersTaken }) d)

/-- A CALL-ALERT for a record (R114). -/
def callAlert (t : Fin 4) (r : CallRec) (d : Device) : Device :=
  if r.state = .requested then enterCall t { r with state := .alerting } (some r.state) .alerting none d
  else stray r.line d

/-- A CALL-CONNECT for a record (R114). -/
def callConnect (t : Fin 4) (r : CallRec) (d : Device) : Device :=
  if r.state = .requested ∨ r.state = .alerting then makeActive t r d else stray r.line d

/-- A HOLD-ACK for a record (R115). -/
def holdAck (t : Fin 4) (r : CallRec) (d : Device) : Device :=
  if r.state = .active then enterCall t { r with state := .held, guard := .stopped } (some r.state) .held none d
  else stray r.line d

/-- A RETRIEVE-ACK for a record (R112, R115). -/
def retrieveAck (t : Fin 4) (r : CallRec) (d : Device) : Device :=
  if r.state = .held then
    match otherActive t d with
    | none => makeActive t r d
    | some _ => deviceClear t r .conflict d
  else stray r.line d

/-- A network CALL-CLEAR for a record (R116). -/
def networkClear (t : Fin 4) (r : CallRec) (cause : Cause) (d : Device) : Device :=
  match r.state, r.clearing with
  | .clearing, some (_, .network) => d
  | .clearing, _ =>
    releaseCall t r .crossed (placeDevice (deviceSignal r.line (tagOf t) (.clearDone r.ref)) d).1
  | _, _ => enterClearing t r cause .network d

/-- A network CLEAR-DONE for a record (R116). -/
def networkDone (t : Fin 4) (r : CallRec) (d : Device) : Device :=
  if r.state = .clearing then releaseCall t r .done d else stray r.line d

/-- A network call message for the record it finds (R114 to R116). -/
def networkMessage (t : Fin 4) (r : CallRec) (f : Fields) (d : Device) : Device :=
  match f.mtype with
  | .callAlert => callAlert t r d
  | .callConnect => callConnect t r d
  | .holdAck => holdAck t r d
  | .retrieveAck => retrieveAck t r d
  | .callClear => networkClear t r (f.cause.getD .normal) d
  | .clearDone => networkDone t r d
  | _ => d

/-- A call message from the network (R113 to R117). -/
def networkCall (f : LinkFrame) (d : Device) : Device :=
  match LineId.ofField f.line with
  | none => d
  | some l =>
    match callRefOf f.fields with
    | none => raise .w1 f.line 0 d
    | some ref =>
      if f.fields.mtype = .callOffer then callOffer l ref d
      else
        match findCall l ref d with
        | none => countCall l (fun c => { c with unmatched := satInc c.unmatched }) d
        | some t =>
          match d.call t with
          | some r => networkMessage t r f.fields d
          | none => d

/-! ### Messages from the host (R118 to R121) -/

/-- A host call message is discarded with a CALL-STATE Refused notice; the Subject is the record's tag, or 255 (R110). Where no
record is found the body carries no direction, and where one is found its previous state is the state in which the record stays:
R110 states neither (DESIGN CHOICE, log entry 49). -/
def refuseCall (l : LineId) (f : LinkFrame) (rec : Option (Fin 4 × CallRec)) (ref : Nat) (cause : CallNoticeCause)
    (d : Device) : Device :=
  match rec with
  | some (t, r) =>
    notify (some l) t.val
      (.callState .refused (some r.dir) ref (some r.state) (some cause) (some (f.fields.mtype, f.tag))) d
  | none => strayNotice l .refused none ref cause (some (f.fields.mtype, f.tag)) d

/-- A refused CALL-REQUEST is counted (R118, R126). -/
def refuseRequest (l : LineId) (f : LinkFrame) (rec : Option (Fin 4 × CallRec)) (ref : Nat) (cause : CallNoticeCause)
    (d : Device) : Device :=
  refuseCall l f rec ref cause (countCall l (fun c => { c with requestsRefused := satInc c.requestsRefused }) d)

/-- A record found by line and reference, with its tag. -/
def callAt (l : LineId) (ref : Nat) (d : Device) : Option (Fin 4 × CallRec) :=
  match findCall l ref d with
  | some t => (d.call t).map fun r => (t, r)
  | none => none

/-- A host CALL-REQUEST; the flag says that the frame goes on (R118). A refusal for No Service or Radio Busy looks for no record, so
its Subject is 255, on a Stopping line too whose Clearing record has the reference (R110; DESIGN CHOICE, log entry 61). -/
def callRequest (l : LineId) (f : LinkFrame) (ref : Nat) (d : Device) : Device × Bool :=
  if (d.lineState l).inService = false then (refuseRequest l f none ref .noService d, false)
  else if d.carriesCall l.other then (refuseRequest l f none ref .radioBusy d, false)
  else
    match callAt l ref d with
    | some x => (refuseRequest l f (some x) ref .referenceInUse d, false)
    | none =>
      match freeTag d with
      | none => (refuseRequest l f none ref .full d, false)
      | some t =>
        (makeCall t
          { line := l, dir := .outgoing, ref := ref, state := .requested
            guard := startGuard l (1000 * (d.params l).requestGuard) d, clearing := none, releasePending := none }
          .requested (countCall l (fun c => { c with requestsTaken := satInc c.requestsTaken }) d), true)

/-- A host CALL-ANSWER (R119). The previous state of the notice offered again for a late answer is Clearing, in which the record
stays (DESIGN CHOICE, log entry 49). -/
def callAnswer (l : LineId) (f : LinkFrame) (ref : Nat) (d : Device) : Device × Bool :=
  match callAt l ref d with
  | none => (refuseCall l f none ref .noCall d, false)
  | some (t, r) =>
    match r.state with
    | .offered => (makeActive t r d, true)
    | .clearing =>
      (notify (some l) t.val
        (.callState .clearing (some r.dir) ref (some r.state) (r.clearing.map fun c => .clearing c.1) none) d, false)
    | _ => (refuseCall l f (some (t, r)) ref .wrongState d, false)

/-- A host CALL-HOLD or CALL-RETRIEVE, which need the state `want` (R120). -/
def holdOrRetrieve (l : LineId) (f : LinkFrame) (ref : Nat) (want : CallState) (d : Device) : Device × Bool :=
  match callAt l ref d with
  | none => (refuseCall l f none ref .noCall d, false)
  | some (t, r) => if r.state = want then (d, true) else (refuseCall l f (some (t, r)) ref .wrongState d, false)

/-- A host CALL-CLEAR acts on its record (R121). -/
def hostClear (l : LineId) (ref : Nat) (cause : Cause) (d : Device) : Device :=
  match callAt l ref d with
  | some (t, r) => if r.state = .clearing then d else enterClearing t r cause .host d
  | none => d

/-- A host CLEAR-DONE acts on its record (R121). -/
def hostDone (l : LineId) (ref : Nat) (d : Device) : Device :=
  match callAt l ref d with
  | some (t, r) => if r.state = .clearing then releaseCall t r .done d else d
  | none => d

/-- A call message from the host; the flag says that the frame goes on to the Line Controller (R35, R117 to R121). -/
def hostCall (l : LineId) (f : LinkFrame) (d : Device) : Device × Bool :=
  match callRefOf f.fields with
  | none => (raise .w2 f.line 0 d, false)
  | some ref =>
    match f.fields.mtype with
    | .callRequest => callRequest l f ref d
    | .callAnswer => callAnswer l f ref d
    | .callHold => holdOrRetrieve l f ref .active d
    | .callRetrieve => holdOrRetrieve l f ref .held d
    | .callClear => (hostClear l ref (f.fields.cause.getD .normal) d, true)
    | .clearDone => (hostDone l ref d, true)
    | _ => (d, true)

/-! ### Guards (R122) -/

/-- A guard that bounds an unanswered call expires: the device clears the call (R122). -/
def guardClears (t : Fin 4) (r : CallRec) (cause : Cause) (d : Device) : Device := deviceClear t r cause d

/-- The clearing guard expires; where the network began the clearing, a CLEAR-DONE is sent on the host's behalf (R122). -/
def clearingExpired (t : Fin 4) (r : CallRec) (d : Device) : Device :=
  let d1 :=
    match r.clearing with
    | some (_, .network) =>
      match placeDevice (deviceSignal r.line (tagOf t) (.clearDone r.ref)) d with
      | (d1, true) => d1
      | (d1, false) => countCall r.line (fun c => { c with clearsLost := satInc c.clearsLost }) d1
    | _ => d
  releaseCall t r .guard d1

/-! ### The voice gate (R124) -/

/-- What the gate makes of a VOICE frame. -/
inductive Gate where
  | pass (t : Fin 4)
  | quiet
  | misroute
  | malformed
  | noLine
  deriving DecidableEq, Repr

/-- A VOICE payload's form: reference, sequence number, and 1 to 64 bytes (R124). -/
def voiceRef (f : Fields) : Option Nat :=
  match f.callRef, f.seq, f.voice with
  | some ref, some _, some bytes => if 1 ≤ bytes.length ∧ bytes.length ≤ 64 then some ref else none
  | _, _, _ => none

/-- The gate's test (R124). -/
def gate (f : LinkFrame) (d : Device) : Gate :=
  match voiceRef f.fields with
  | none => .malformed
  | some ref =>
    match LineId.ofField f.line with
    | none => .noLine
    | some l =>
      match callAt l ref d with
      | some (t, r) =>
        if r.state = .active then
          if slotState d (slotOf .traffic l) = .active then .pass t else .quiet
        else .misroute
      | none => .misroute

/-- A quiet discard is counted, and reported to the Move Unit for a Moving line (R124, R150). -/
def voiceQuiet (l : LineId) (d : Device) : Device :=
  let d1 := countCall l (fun c => { c with voiceDiscarded := satInc c.voiceDiscarded }) d
  if d.lineState l = .moving then onMoveRec l (fun m => { m with voiceDiscarded := satInc m.voiceDiscarded }) d1 else d1

/-- The frame joins the voice buffer, which keeps the newest two (R21, R33). -/
def bufferVoice (f : LinkFrame) (d : Device) : Device :=
  d.onHost fun h =>
    { h with
      voice := pushDropOldest Config.voiceBufferCap h.voice
        { line := f.line, cls := .normal, tag := callTag f.line f.fields d, payload := .delivered f } }

/-- What the gate does with a frame that it does not pass; `w` is the warning of the frame's port (R124). -/
def gateDiscard (g : Gate) (w : Cond) (f : LinkFrame) (d : Device) : Device :=
  match g with
  | .pass _ | .noLine => d
  | .malformed => raise w f.line 0 d
  | .misroute => raise .w8 f.line (f.fields.callRef.getD 0) d
  | .quiet =>
    match LineId.ofField f.line with
    | some l => voiceQuiet l d
    | none => d

/-- Count a passed VOICE frame of a line. -/
def countPassed (f : LinkFrame) (g : CallCounts → CallCounts) (d : Device) : Device :=
  match LineId.ofField f.line with
  | some l => countCall l g d
  | none => d

/-- A VOICE frame from the modem at the gate (R33, R124). -/
def gateDown (f : LinkFrame) (d : Device) : Device :=
  match gate f d with
  | .pass _ => countPassed f (fun c => { c with voiceDown := satInc c.voiceDown }) (bufferVoice f d)
  | g => gateDiscard g .w1 f d

/-- A host VOICE frame that passes the gate for a record: it goes to the Voice lane with the record's tag (R36, R124). Its header
keeps the Tag it arrived with when it is sent (R3, `ModemFrame.onWire`; DEDUCED, log entry 12). -/
def gateFrame (t : Fin 4) (f : LinkFrame) : ModemFrame := { forwardFrame f with tag := tagOf t }

/-- A VOICE frame from the host at the gate (R36, R124). -/
def gateUp (f : LinkFrame) (d : Device) : Device :=
  match gate f d with
  | .pass t =>
    countPassed f (fun c => { c with voiceUp := satInc c.voiceUp })
      (placeVoice (gateFrame t f) d)
  | g => gateDiscard g .w2 f d

end Sys2Proof.Machine
end

