-- ==== Sys2Proof/Machine/Moves.lean ====
section
/-! DEFINITION. The Move Unit (chapter 9): MOVE-ORDER, proof of a target, fallback, and the outcomes of handovers and
reselections; and CELL-INFO, which the Line Controller shares with it (R50). -/

namespace Sys2Proof.Machine

/-! ### Messages (R161) -/

/-- A MOVE-DONE or MOVE-FAIL is placed in the Device lane; one discarded there is counted (R161). -/
def sendMove (l : LineId) (p : ModemPayload) (d : Device) : Device :=
  match placeDevice (deviceSignal l 255 p) d with
  | (d1, true) => d1
  | (d1, false) => countMove l (fun c => { c with messagesLost := satInc c.messagesLost }) d1

/-! ### Fallback (R156) -/

/-- The record of a line enters Fallback (R156). -/
def enterFallback (l : LineId) (c : FallbackCause) (d : Device) : Device :=
  onMoveRec l (fun m =>
    { m with phase := .fallback, deadline := Config.fallbackFrames, extended := false, fallbackCause := some c
             barredAtReady := false }) d

/-- Fallback within the grant: a TUNE to the old serving cell as a follow-on order (R77, R156). -/
def fallbackFollowOn (l : LineId) (c : FallbackCause) (d : Device) : Device :=
  match holding (moveSlot l) d, d.moveRec l with
  | some h, some m => followOn h (tune m.oldCell Config.fallbackFrames) (enterFallback l c d)
  | _, _ => d

/-- Fallback after the grant has ended: the MOVE slot is requested again (R156). -/
def fallbackAgain (l : LineId) (c : FallbackCause) (d : Device) : Device :=
  requestSlot (moveSlot l) (enterFallback l c d)

/-! ### Outcomes of a handover (R154, R157) -/

/-- The line returns from Moving into Connected: guards, pending releases, Hold, TRAFFIC, measurement, and the SYNC-FOUND
handed to the Line Controller; then the last record freed is reported, and a deferred stop takes effect last (R111,
R154; log entry 31). -/
def backToConnected (l : LineId) (d : Device) : Device :=
  let before := callsOf l d
  let d1 := freePending l (resumeGuards l (setLineState l .connected d))
  let d2 := measureConnected l (requestTraffic l (emptyHold l d1))
  let d3 := servingSyncFound l (d2.onLine l fun r => { r with radioLink := r.radioLink.resume })
  let d4 := if before ≠ [] ∧ callsOf l d3 = [] then lastRecordFreed l d3 else d3
  if (d4.line l).deferredStop then stopTakesEffect l d4 else d4

/-- The target of a handover has been reached (R154). -/
def handoverReached (l : LineId) (m : MoveRec) (d : Device) : Device :=
  let d1 := (roleSwap l m d).onLine l fun r => { r with servingBarred := false }
  backToConnected l (finishMove l .success .reached false (endMoveWindow l (sendMove l (.moveDone m.target) d1)))

/-- A handover has fallen back (R157). -/
def handoverBack (l : LineId) (m : MoveRec) (d : Device) : Device :=
  let d1 := sendMove l (.moveFail m.target (m.fallbackCause.getD .deadline)) d
  backToConnected l (finishMove l .failed (fallbackOf m) false (endMoveWindow l d1))

/-- A handover is lost (R157). -/
def handoverLost (l : LineId) (m : MoveRec) (d : Device) : Device :=
  lostMove l (finishMove l .lost (fallbackOf m) false (endMoveWindow l d))

/-! ### Outcomes of a reselection (R158, R159) -/

/-- A reselection has ended with the line still Camped: paging is Watching, and the schedule resumes (R83, R134). -/
def resumeCamped (l : LineId) (d : Device) : Device :=
  decideSchedule l (d.onPaging l fun p => { p with state := .watching, primary := primaryOf p.identities })

/-- A CELL-INFO proves the target of a reselection (R158). -/
def reselectReached (l : LineId) (m : MoveRec) (x : CellInfo) (d : Device) : Device :=
  let d1 := servingUpdate l x (roleSwap l m (endMoveWindow l d))
  let d2 := d1.onLine l fun r => { r with campedRounds := 0 }
  resumeCamped l (finishMove l .success .reached false d2)

/-- A reselection has failed (R159). The bar, and the candidate left out of a new reselection, are the entry that the record
names, whatever cell a host write has put there since (DEDUCED, log entry 39). -/
def reselectFailed (l : LineId) (m : MoveRec) (d : Device) : Device :=
  match barEntry l m.targetEntry (endMoveWindow l d) with
  | (d1, bar) =>
    let d2 := resumeCamped l (finishMove l .failed (fallbackOf m) bar d1)
    if (d2.line l).servingBarred then actOnBarred l (some m.targetEntry) d2 else d2

/-- A reselection is lost (R159). -/
def reselectLost (l : LineId) (m : MoveRec) (d : Device) : Device :=
  lostSync l (finishMove l .lost (fallbackOf m) false (endMoveWindow l d))

/-- A move in Fallback is lost (R157, R159). -/
def moveLost (l : LineId) (m : MoveRec) (d : Device) : Device :=
  match m.kind with
  | .handover => handoverLost l m d
  | .reselect => reselectLost l m d

/-! ### MOVE-ORDER (R151, R152) -/

/-- A MOVE-ORDER is stray or collides (R151). -/
def strayOrder (l : LineId) (d : Device) : Device :=
  raise .w9 (fieldOf l) 0 (countMove l (fun c => { c with ordersRefused := satInc c.ordersRefused }) d)

/-- The Line Controller takes a Connected line into Moving (R152 step 3). -/
def enterMoving (l : LineId) (d : Device) : Device :=
  let d1 := freezeGuards l (releaseSlot (slotOf .traffic l) (setLineState l .moving d))
  measureMoving l (d1.onLine l fun r => { r with radioLink := r.radioLink.freeze })

/-- A MOVE-ORDER is taken for a Connected line whose serving entry is `s` (R152). -/
def takeMoveOrder (l : LineId) (s : Fin 24) (c : Cell) (deadline : Int) (d : Device) : Device :=
  match allocTarget l c d with
  | none => d
  | some a =>
    let m : MoveRec :=
      { kind := .handover, trigger := .order, phase := .waitingGrant, target := c, targetEntry := a.entry, oldEntry := s
        oldCell := (d.entry s).cell, deadline := (clampInt 10 200 deadline).toNat, extended := false
        evicted := a.evicted, voiceDiscarded := 0, fallbackCause := none, barredAtReady := false }
    let d1 := countMove l (fun n => { n with handovers := satInc n.handovers })
      (a.dev.onMove l fun mv => { mv with record := some m })
    requestSlot (moveSlot l) (enterMoving l d1)

/-- A MOVE-ORDER handed to the Move Unit (R151). -/
def moveOrderMsg (f : LinkFrame) (d : Device) : Device :=
  match f.fields.cell, f.fields.deadline with
  | some c, some n =>
    match LineId.ofField f.line with
    | none => d
    | some l =>
      match d.lineState l, (d.line l).serving with
      | .connected, some s => if (d.entry s).cell = c then strayOrder l d else takeMoveOrder l s c n d
      | _, _ => strayOrder l d
  | _, _ => raise .w1 f.line 0 d

/-! ### Status and windows of the MOVE slot (R153, R154, R156 to R159) -/

/-- A SYNC-FOUND reaches the Move Unit, whose slot holds the radio (R154, R157, R158, R159). -/
def moveSyncFound (l : LineId) (c : Cell) (d : Device) : Device :=
  match d.moveRec l with
  | none => d
  | some m =>
    match m.phase, m.kind with
    | .tuning, .handover => if c = m.target then handoverReached l m d else d
    | .tuning, .reselect => if c = m.target then onMoveRec l (fun m => { m with phase := .confirming }) d else d
    | .fallback, .handover => if c = m.oldCell then handoverBack l m d else d
    | .fallback, .reselect => if c = m.oldCell then reselectFailed l m d else d
    | _, _ => d

/-- The MOVE window has opened; a barred CELL-INFO taken in Granted is acted on now (R156). -/
def moveOpened (l : LineId) (d : Device) : Device :=
  match d.moveRec l with
  | some m => if m.barredAtReady then fallbackFollowOn l .targetBarred d else d
  | none => d

/-- The MOVE window ended by DONE or overrun, or the grant failed (R156, R157, R159). -/
def moveEnded (l : LineId) (c : FallbackCause) (d : Device) : Device :=
  match d.moveRec l with
  | none => d
  | some m =>
    match m.phase with
    | .waitingGrant => d
    | .tuning | .confirming => fallbackAgain l c d
    | .fallback => moveLost l m d

/-- The deadline timer of a move expires (R156, R157, R159). -/
def deadlineReached (l : LineId) (m : MoveRec) (d : Device) : Device :=
  match m.phase with
  | .waitingGrant => d
  | .tuning | .confirming => fallbackFollowOn l .deadline d
  | .fallback => moveLost l m d

/-- The follow-on TUNE that lengthens a Tuning or Confirming window (R153). -/
def extendTune (l : LineId) (h : Holder) (m : MoveRec) (d : Device) : Device :=
  followOn h (tune m.target m.deadline)
    (countMove l (fun c => { c with extensions := satInc c.extensions })
      (onMoveRec l (fun m => { m with extended := true }) d))

/-! ### CELL-INFO (R50, R156, R158) -/

/-- A CELL-INFO of another cell reaches a reselection in flight (R50, R156, R158). A barred one taken in Granted waits for READY,
and a clear one of the target that comes before that READY still proves it (DESIGN CHOICE, log entry 20). -/
def targetCellInfo (l : LineId) (m : MoveRec) (x : CellInfo) (d : Device) : Device :=
  if (m.phase = .tuning ∨ m.phase = .confirming) ∧ x.cell = m.target then
    match slotState d (moveSlot l), x.barred with
    | .active, true => fallbackFollowOn l .targetBarred d
    | .granted, true => onMoveRec l (fun m => { m with barredAtReady := true }) d
    | .granted, false | .active, false | .yielding, false => reselectReached l m x d
    | _, _ => d
  else d

/-- A CELL-INFO of a Camped line (R50). -/
def campedCellInfo (l : LineId) (x : CellInfo) (d : Device) : Device :=
  if d.servingCell l = some x.cell then
    let d1 := servingUpdate l x d
    if x.barred && !(d.line l).servingBarred then actOnBarred l none d1 else d1
  else
    match d.moveRec l with
    | some m => if m.kind = .reselect then targetCellInfo l m x d else d
    | none => d

/-- A CELL-INFO handed to the Line Controller (R50). -/
def cellInfoMsg (f : LinkFrame) (d : Device) : Device :=
  match LineId.ofField f.line with
  | none => d
  | some l =>
    match cellInfoOf f.fields with
    | none => raise .w1 f.line 0 d
    | some x =>
      match d.lineState l with
      | .searching => if slotState d (slotOf .search l) = .active then foundCellInfo l x d else d
      | .camped => campedCellInfo l x d
      | .connected | .moving => if d.servingCell l = some x.cell then servingUpdate l x d else d
      | .off | .lost | .stopping => d

end Sys2Proof.Machine
end

