-- ==== Sys2Proof/Machine/Pages.lean ====
section
/-! DEFINITION. PAGE frames and their records (chapter 5), SAMPLE and REPORT-CONFIG frames (chapter 8), and the radio
occasions (R84, R86). -/

namespace Sys2Proof.Machine

/-! ### PAGE (R88 to R94) -/

/-- Change a line's paging counts (R95). -/
def countPaging (l : LineId) (f : PagingCounts → PagingCounts) (d : Device) : Device :=
  d.onPaging l fun p => { p with counts := f p.counts }

/-- The matched entry of a record: the first valid one that equals its identity (R89). -/
def matchedEntry (l : LineId) (identity : BitVec 32) (d : Device) : Option (Fin 4) :=
  (indexes 4).find? fun i =>
    let e := (d.page l).identities.get i
    e.valid && e.value == identity

/-- The record is absorbed by an item of the Recent Page List (R94). -/
def absorbed (l : LineId) (r : PageRecord) (d : Device) : Bool :=
  (liveRecent l d).any fun x => x.identity == r.identity && x.domain == r.domain

/-- A PAGE-ANSWER is made and placed by the Camped row of R52; an answer that is lost takes its item with it (R90). One that goes
at once to a full Device lane is lost in the same way, which R90 says of the emptying of the Hold alone (DEDUCED, log entry 48). -/
def answerPage (l : LineId) (r : PageRecord) (cell : Cell) (n : FrameNo) (d : Device) : Device :=
  let f := deviceSignal l 255 (.pageAnswer r.identity r.domain cell n)
  let d1 := joinRecent l r.identity r.domain .answered
    (countPaging l (fun c => { c with answered := satInc c.answered }) d)
  if slotState d (slotOf .access l) = .active ∧ (d.line l).hold = [] then
    match placeDevice f d1 with
    | (d2, true) => d2
    | (d2, false) => answerLost l r.identity r.domain d2
  else
    match joinHold l f d1 with
    | (d2, true) => wantAccess l d2
    | (d2, false) => answerLost l r.identity r.domain d2

/-- A matched record that is not absorbed, with its entry (R89 to R92). -/
def actOnRecord (l : LineId) (i : Fin 4) (r : PageRecord) (cell : Cell) (n : FrameNo) (d : Device) : Device :=
  match r.domain with
  | .call =>
    if d.carriesCall l.other then
      crossPage l i.val .callPage r.identity false (joinRecent l r.identity r.domain .cross d)
    else answerPage l r cell n d
  | .text => answerPage l r cell n d
  | .service =>
    notify (some l) i.val (.servicePage r.identity cell n) (joinRecent l r.identity r.domain .service d)
  | .other _ => d

/-- One page record (R88, R89, R94). -/
def takeRecord (l : LineId) (cell : Cell) (n : FrameNo) (d : Device) (r : PageRecord) : Device :=
  match r.domain with
  | .other _ => d
  | _ =>
    match matchedEntry l r.identity d with
    | none => d
    | some i =>
      if absorbed l r d then countPaging l (fun c => { c with absorbed := satInc c.absorbed }) d
      else actOnRecord l i r cell n d

/-- A PAGE handed to the Paging Unit (R88). -/
def pageMsg (f : LinkFrame) (d : Device) : Device :=
  match f.fields.cell, f.fields.frameNo, f.fields.records with
  | some c, some n, some rs =>
    if rs = [] ∨ 8 < rs.length then raise .w1 f.line 0 d
    else
      match LineId.ofField f.line with
      | none => d
      | some l =>
        if d.servingCell l = some c then
          let d1 := setFrame l n d
          if d1.lineState l = .camped ∧ (d1.page l).state ≠ .off then rs.foldl (takeRecord l c n) d1 else d1
        else d
  | _, _, _ => raise .w1 f.line 0 d

/-! ### SAMPLE (R137) -/

/-- The clamps of R137 step 3. -/
def clampLevel (n : Int) : Int := clampInt (-560) (-176) n
def clampQuality (n : Int) : Nat := (clampInt 0 31 n).toNat

/-- A sample for an entry: steps 6 to 9 of R137, and then the round ends that follow. -/
def entrySample (i : Fin 24) (s : Parked) (d : Device) : Device :=
  let d1 := LineId.all.foldl (fun d l => markRound i l d) d
  let d2 :=
    if (d1.entry i).state = .barred then d1
    else
      match d1.meas.lock with
      | some k =>
        if k.entry = i then
          (countApplied i d1).onMeas fun m => { m with lock := some { k with parked := some s } }
        else applySample i s (countApplied i d1)
      | none => applySample i s (countApplied i d1)
  checkRound .b (checkRound .a d2)

/-- A SAMPLE handed to the Measurement Unit (R137). -/
def sampleMsg (f : LinkFrame) (d : Device) : Device :=
  match f.fields.cell, f.fields.frameNo, f.fields.detected, f.fields.level, f.fields.quality with
  | some c, some n, some det, some lv, some q =>
    match LineId.ofField f.line with
    | none => d
    | some l =>
      if d.lineState l = .off then d
      else
        let s := clampLevel lv
        let d1 := if det && slotState d (slotOf .search l) == .active then foundSample l c s d else d
        match entryOf c d1 with
        | none => countMeas l (fun m => { m with unmatched := satInc m.unmatched }) d1
        | some i => entrySample i ⟨c, l, n, det, s, clampQuality q⟩ d1
  | _, _, _, _, _ => raise .w1 f.line 0 d

/-! ### REPORT-CONFIG (R144) -/

/-- The overrides that a REPORT-CONFIG sets, each field clamped to the range of its parameter (R131, R144). -/
def overridesOf (hys ttt interval amount : Int) : Overrides :=
  ⟨(clampInt 0 60 hys).toNat, (clampInt 1 15 ttt).toNat, (clampInt 1 60 interval).toNat, (clampInt 1 8 amount).toNat⟩

/-- A REPORT-CONFIG handed to the Measurement Unit (R144). -/
def reportConfigMsg (f : LinkFrame) (d : Device) : Device :=
  match f.fields.hys, f.fields.ttt, f.fields.interval, f.fields.amount with
  | some h, some t, some i, some a =>
    match LineId.ofField f.line with
    | none => d
    | some l =>
      if d.carriesCall l then d.onLine l fun r => { r with overrides := some (overridesOf h t i a) } else d
  | _, _, _, _ => raise .w1 f.line 0 d

/-! ### Occasions (R84, R86) -/

/-- The boundary counts of a line's paging: its watch and its Recent Page List (R84, R94). -/
def pagingBoundary (p : PagingRec) : PagingRec :=
  { p with
    watch := p.watch.map fun w => { w with toOccasion := w.toOccasion - 1, toEnd := w.toEnd - 1 }
    recent := p.recent.map fun r => { r with left := r.left - 1 } }

/-- The new counter value is the request frame of a Watching line (R84). -/
def atRequestFrame (l : LineId) (d : Device) : Bool :=
  (d.page l).state == .watching &&
  match requestFrame l d, (d.line l).cycle with
  | some q, some c => (d.line l).frame.toNat % c == q
  | _, _ => false

/-- The occasion test at a boundary (R84). A boundary that also brings a watch's end count to 0 with the slot still waiting is tested
before that watch ends, so it counts two misses and makes no request: no rule orders the two (DESIGN CHOICE, log entry 52). -/
def occasionTest (l : LineId) (d : Device) : Device :=
  if atRequestFrame l d then
    match (d.page l).watch with
    | some _ => countMissed l d
    | none =>
      let p := d.params l
      requestSlot (slotOf .paging l)
        (d.onPaging l fun q =>
          { q with
            watch := some ⟨p.listenLead, p.listenLead + p.listenWindow, false⟩
            counts := { q.counts with requested := satInc q.counts.requested } })
  else d

/-- The end count has reached 0 with the slot still waiting: the slot is released and the occasion missed (R86). -/
def occasionEnded (l : LineId) (d : Device) : Device :=
  match (d.page l).watch with
  | some w =>
    if w.toEnd = 0 ∧ (slotState d (slotOf .paging l)).waits = true then
      releaseSlot (slotOf .paging l) (endWatch l (countMissed l d))
    else d
  | none => d

end Sys2Proof.Machine
end

