-- ==== Sys2Proof/Machine/Walk.lean ====
section
/-! DEFINITION. The Dispatcher (chapter 2): taking a frame, the walk along the rules, and what each action does. -/

namespace Sys2Proof.Machine

/-! ### The walk (R27 to R30) -/

/-- The direction of a frame: downlink from the modem, uplink from the host (R24). -/
inductive Direct where
  | down | up
  deriving DecidableEq, Repr

/-- The Entry Table entry of a port and kind (R24). -/
def entryNumber : Direct → Kind → Fin 6
  | .down, .page => 0
  | .down, .signal => 1
  | .down, .sample => 2
  | .down, .voice => 3
  | .up, .signal => 4
  | .up, .voice => 5
  | .down, _ => 1
  | .up, _ => 4

/-- A match field admits a value. -/
def Match.admits {α : Type} [DecidableEq α] : Match α → α → Bool
  | .any, _ => true
  | .is x, y => x == y

/-- A power state is one that a match value names: Awake covers Offered (R28). -/
def PowerMatch.holds (p : Power) : PowerMatch → Bool
  | .awake => p == .awake || p == .offered
  | .asleepOrWaking => p == .asleep || p == .waking

/-- The host power test (R28). -/
def powerAdmits (p : Power) : Match PowerMatch → Bool
  | .any => true
  | .is m => PowerMatch.holds p m

/-- The message type test: passed by a frame that is not SIGNAL, and by no undefined type when one is named (R28). -/
def typeAdmits (m : Match MsgType) (f : LinkFrame) : Bool :=
  match m with
  | .any => true
  | .is t => f.kind != .signal || (MsgType.isDefined f.fields.mtype && t == f.fields.mtype)

/-- A visited rule matches the frame (R28). -/
def Rule.matches (r : Rule) (p : Power) (f : LinkFrame) : Bool :=
  r.inUse && Match.admits r.kind f.kind && typeAdmits r.mtype f && Match.admits r.line (LineId.ofField f.line) && powerAdmits p r.power

/-- An action applies to a frame of the direction (R29). -/
def Action.applies : Direct → Action → Bool
  | _, .drop => true
  | .down, .handle | .down, .deliver | .down, .both => true
  | .up, .track | .up, .pass => true
  | _, _ => false

/-- What a visit decides (R29). -/
inductive Visit where
  | apply (a : Action) (c : Cls)
  | goOn (i : Fin 64)
  | ends
  deriving DecidableEq, Repr

/-- The way on after a miss: a rule not in use leads to End (R29). -/
def Rule.miss (r : Rule) : Visit :=
  match r.inUse, r.missNext with
  | true, some i => .goOn i
  | _, _ => .ends

/-- A visit to a rule (R28, R29). -/
def Rule.visit (r : Rule) (dir : Direct) (p : Power) (f : LinkFrame) : Visit :=
  if r.matches p f then
    if r.action = .jump then .goOn r.jump
    else if Action.applies dir r.action then .apply r.action r.cls
    else r.miss
  else r.miss

/-- How a walk ends (R29, R30). -/
inductive Verdict where
  | rule (a : Action) (c : Cls)
  | default
  | overflow (last : Fin 64)
  deriving DecidableEq, Repr

/-- A walk with `n` visits left, at rule `i` (R29, R30). -/
def walkFrom (rules : Tab Rule 64) (dir : Direct) (p : Power) (f : LinkFrame) : Nat → Fin 64 → Verdict
  | 0, _ => .default
  | n + 1, i =>
    match (rules.get i).visit dir p f with
    | .apply a c => .rule a c
    | .ends => .default
    | .goOn j => if n = 0 then .overflow i else walkFrom rules dir p f n j

/-- The walk of a frame (R27, R30). -/
def walk (t : Dispatcher) (dir : Direct) (p : Power) (f : LinkFrame) : Verdict :=
  match (t.entries.get (entryNumber dir f.kind)).start with
  | none => .default
  | some i => walkFrom t.rules dir p f Config.maxHops i

/-! ### Downlink actions (R31 to R34) -/

/-- The class of an entry default's copy (R32). -/
def defaultCls : Kind → Cls
  | .sample => .bulk
  | _ => .normal

/-- A frame is offered to the Host-bound Queue (R3, R32). -/
def deliver (f : LinkFrame) (c : Cls) (d : Device) : Device :=
  (offer { line := f.line, cls := c, tag := if f.kind = .signal then callTag f.line f.fields d else 0
           payload := .delivered f } d).1

/-- A frame's owning unit acts on it; `none` where no unit owns it (R31). -/
def handUnit (f : LinkFrame) (d : Device) : Option Device :=
  match f.kind with
  | .page => some (pageMsg f d)
  | .sample => some (sampleMsg f d)
  | .voice => some (gateDown f d)
  | .signal =>
    if MsgType.isNetworkCall f.fields.mtype then some (networkCall f d)
    else
      match f.fields.mtype with
      | .cellInfo => some (cellInfoMsg f d)
      | .moveOrder => some (moveOrderMsg f d)
      | .reportConfig => some (reportConfigMsg f d)
      | .textPart => some (textPart f d)
      | _ => none
  | _ => some d

/-- A frame has an owning unit (R31). -/
def hasUnit (f : LinkFrame) : Bool :=
  f.kind != .signal || MsgType.isNetworkCall f.fields.mtype ||
  match f.fields.mtype with
  | .cellInfo | .moveOrder | .reportConfig | .textPart => true
  | _ => false

/-- A downlink action (R31 to R34). -/
def actDown (a : Action) (c : Cls) (f : LinkFrame) (d : Device) : Device :=
  match a with
  | .handle =>
    match handUnit f d with
    | some d' => d'
    | none => deliver f .normal d
  | .deliver => if f.kind = .voice then bufferVoice f d else deliver f c d
  | .both =>
    if f.kind = .voice then gateDown f d
    else
      let d1 := deliver f c d
      match handUnit f d1 with
      | some d2 => d2
      | none => d1
  | .drop | .track | .pass | .jump => d

/-! ### Uplink actions (R34 to R36) -/

/-- Track of a host SIGNAL frame (R35). -/
def trackSignal (l : LineId) (f : LinkFrame) (d : Device) : Device :=
  if MsgType.isHostCall f.fields.mtype then
    match hostCall l f d with
    | (d1, true) => uplink l f d1
    | (d1, false) => d1
  else if f.fields.mtype = .textPart then uplink l f (observePart l d)
  else uplink l f d

/-- An uplink action (R34 to R36, R52). -/
def actUp (a : Action) (f : LinkFrame) (d : Device) : Device :=
  match a, f.kind with
  | .track, .voice => gateUp f d
  | .pass, .voice => placeVoice (forwardFrame f) d
  | .track, _ =>
    match LineId.ofField f.line with
    | some l => trackSignal l f d
    | none => d
  | .pass, _ =>
    match LineId.ofField f.line with
    | some l => uplink l f d
    | none => d
  | _, _ => d

/-- An action of either direction. -/
def act (dir : Direct) (a : Action) (c : Cls) (f : LinkFrame) (d : Device) : Device :=
  match dir with
  | .down => actDown a c f d
  | .up => actUp a f d

/-- A frame is walked under the host power of the walk's start, and its action applied; an overflow is recorded and raises W6
after the entry default (R27, R30). -/
def walkFrame (dir : Direct) (p : Power) (f : LinkFrame) (d : Device) : Device :=
  let e := entryNumber dir f.kind
  let rec_ := d.disp.entries.get e
  match walk d.disp dir p f with
  | .rule a c => act dir a c f d
  | .default => act dir rec_.default (defaultCls f.kind) f d
  | .overflow i =>
    raise .w6 f.line e.val
      (act dir rec_.default (defaultCls f.kind) f
        (d.onDisp fun t => { t with overflow := some ⟨e, rec_.start, i⟩ }))

/-! ### Taking frames (R26) -/

/-- The Dispatcher takes its next frame: from the input it did not take from last when both hold one; a frame that
leaves the Intake Queue is a leave for the pause state (R8, R26). -/
def takeFrame (d : Device) : Option (Direct × LinkFrame × Device) :=
  let fromModem (f : LinkFrame) (rest : List LinkFrame) :=
    some (Direct.down, f,
      pauseOffTest ((d.onModem fun m => { m with intake := rest }).onDisp fun t => { t with lastTurn := .modem }))
  let fromHost (f : LinkFrame) :=
    some (Direct.up, f, (d.onHost fun h => { h with input := none }).onDisp fun t => { t with lastTurn := .host })
  match d.modem.intake, d.host.input with
  | [], none => none
  | f :: rest, none => fromModem f rest
  | [], some g => fromHost g
  | f :: rest, some g => if d.disp.lastTurn = .host then fromModem f rest else fromHost g

/-! ### Table writes (R38) -/

/-- Write consecutive items from an index; items past the end of the table do not arise from a checked write. -/
def writeItems {α : Type} {n : Nat} : List α → Nat → Tab α n → Tab α n
  | [], _, t => t
  | x :: xs, i, t => writeItems xs (i + 1) (if h : i < n then Tab.upd t ⟨i, h⟩ fun _ => x else t)

/-- A checked write of either table is applied whole (R38). -/
def applyDispatch (w : DispatchWrite) (d : Device) : Device :=
  d.onDisp fun t =>
    match w with
    | .entries i xs => { t with entries := writeItems xs i t.entries }
    | .rules i xs => { t with rules := writeItems xs i t.rules }

/-- A waiting write whose walk has ended is applied, and its REPLY Done offered (R38). -/
def applyWaiting (d : Device) : Device :=
  match d.disp.write with
  | some w =>
    if w.walkEnded then
      (offer (replyFrame w.tag 2 .done) ((applyDispatch w.write d).onDisp fun t => { t with write := none })).1
    else d
  | none => d

/-- A walk has begun when a dispatch table's write arrives, with the port free to take the write in: the Dispatcher has taken its
next frame, and has read the host power that the walk tests. An empty Intake Queue leaves no frame that could be walked, and a walk
in progress goes on (R26, R27; log entry 6). -/
def beginWalk (d : Device) : Device :=
  match d.disp.walking, takeFrame d with
  | none, some (.down, f, d1) => d1.onDisp fun t => { t with walking := some ⟨f, d.sleep.power⟩ }
  | _, _ => d

/-- The walk in progress has ended for a write that waits (R38). -/
def endWalk (d : Device) : Device :=
  d.onDisp fun t => { t with write := t.write.map fun w => { w with walkEnded := true } }

/-- The walk in progress ends with its action, under the host power of its start (R27, R38). -/
def finishWalk (d : Device) : Device :=
  match d.disp.walking with
  | some w => endWalk (walkFrame .down w.power w.frame (d.onDisp fun t => { t with walking := none }))
  | none => d

/-- The walk of the next frame (R26, R27). -/
def walkNext (d : Device) : Device :=
  match takeFrame d with
  | some (dir, f, d1) => walkFrame dir d1.sleep.power f d1
  | none => d

/-- One walk: the one in progress ends, or else a write whose walk has ended is applied and a frame is taken and walked (R26,
R38). -/
def dispatchOnce (d : Device) : Device :=
  match d.disp.walking with
  | some _ => finishWalk d
  | none => endWalk (walkNext (applyWaiting d))

end Sys2Proof.Machine
end

