-- ==== Sys2Proof/Machine/Commands.lean ====
section
/-! DEFINITION. The Management Unit (chapter 11): taking a command, and what each command does. The table writes and
reads stand in Machine/Tables.lean, Status Read and the resets in Machine/Status.lean. -/

namespace Sys2Proof.Machine

/-! ### Replies and the taking of commands (R173, R174) -/

/-- The REPLY of a command is offered (R174). -/
def reply (h : CmdHead) (command : Byte) (o : ReplyOutcome) (d : Device) : Device :=
  (offer (replyFrame h.tag command o) d).1

/-- A command is refused (R174). -/
def refuse (h : CmdHead) (command : Byte) (r : Reason) (d : Device) : Device := reply h command (.refused r) d

/-- The lock that a command finds, but for the Write-Unlock that names it, is split first (R147, R173). -/
def splitFirst (d : Device) : Device :=
  match d.meas.lock with
  | some k => splitLock k d
  | none => d

/-- A command is taken: its arrival, the lock split, and its execution, which is given the lock as it stood (R169, R173). What a
Status Read reports beside the lock is read after the split (DEDUCED, log entry 58). -/
def takeCommand (h : CmdHead) (run : Option Lock → Device → Device) (d : Device) : Device :=
  let d1 := hostAccepted h.linkCount d
  run d1.meas.lock (splitFirst d1)

/-- A command that carries no body and names Target 0 and Index 0, or is refused with Range (R174). -/
def plainCommand (h : CmdHead) (n : Byte) (body : Body Unit) (f : Device → Device) (d : Device) : Device :=
  match body with
  | .fits _ => if h.target = 0 ∧ h.index = 0 then f d else refuse h n .range d
  | .misfit => refuse h n .range d

/-- The line a Target names: 1 or 2 (section 1.3). -/
def targetLine (t : Byte) : Option LineId := if t = 1 then some .a else if t = 2 then some .b else none

/-! ### Identify (R175) -/

/-- The capacities that Identify carries, in the order of R175. -/
def capacities : List Nat := [32, 48, 64, 24, 4, 8, 48, 13, 4, 4]

/-- Identify (R175). -/
def doIdentify (h : CmdHead) (d : Device) : Device :=
  reply h 1 (.data (.identify Config.productCode Config.revision capacities d.lastReset)) d

/-! ### Lines (R43, R54) -/

/-- An Off line enters Searching (R43). -/
def startLine (l : LineId) (d : Device) : Device :=
  enterSearching l (d.onLine l fun r =>
    { r with searchPos := 23, found := [], lossCause := none, noServiceSent := false, deferredStop := false
             holdLost := 0 })

/-- Line Start (R43). -/
def doLineStart (h : CmdHead) (body : Body Unit) (d : Device) : Device :=
  match body, targetLine h.target with
  | .fits _, some l =>
    if h.index ≠ 0 then refuse h 6 .range d
    else if d.lineState l = .off then reply h 6 .done (startLine l d)
    else refuse h 6 .lineActive d
  | _, _ => refuse h 6 .range d

/-- Line Stop: the REPLY, and then what the line's state calls for (R54). -/
def doLineStop (h : CmdHead) (body : Body Unit) (d : Device) : Device :=
  match body, targetLine h.target with
  | .fits _, some l => if h.index ≠ 0 then refuse h 7 .range d else lineStop l (reply h 7 .done d)
  | _, _ => refuse h 7 .range d

/-! ### Lock-Read and Write-Unlock (R147, R148) -/

/-- An entry's fields as a read gives them (R127, R147). -/
def entryView (i : Fin 24) (d : Device) : EntryView :=
  { entry := d.entry i
    locked := isLocked i d
    parked := match d.meas.lock with
      | some k => if k.entry = i then k.parked else none
      | none => none }

/-- An index of the Neighbour Table. -/
def entryIndex (n : Nat) : Option (Fin 24) := if h : n < 24 then some ⟨n, h⟩ else none

/-- Lock-Read (R147). -/
def doLockRead (h : CmdHead) (body : Body Unit) (d : Device) : Device :=
  match body, entryIndex h.index.toNat with
  | .fits _, some i =>
    if h.target ≠ 0 then refuse h 4 .range d
    else
      let d1 := setLock (some ⟨i, d.meas.lockHold, none⟩) d
      reply h 4 (.data (.entry (entryView i d1))) d1
  | _, _ => refuse h 4 .range d

/-- The ranges of R127. -/
def hostInRange (x : HostFields) : Bool :=
  decide (x.cell.channel ≤ 4095 ∧ x.cell.code ≤ 511 ∧ -96 ≤ x.ocnA ∧ x.ocnA ≤ 96 ∧ -96 ≤ x.ocnB ∧ x.ocnB ≤ 96
    ∧ -96 ≤ x.qoff ∧ x.qoff ≤ 96)

/-- A write leaves the entry with an owner. -/
def HostFields.owned (x : HostFields) : Bool := x.ownA || x.ownB

/-- The written item for an entry, of items written from index `first`. -/
def writtenAt (first : Nat) (xs : List HostFields) (i : Fin 24) : Option HostFields :=
  if first ≤ i.val then xs[i.val - first]? else none

/-- The cell that an entry would hold after a write, where it would be non-Free. -/
def cellAfter (first : Nat) (xs : List HostFields) (d : Device) (i : Fin 24) : Option Cell :=
  match writtenAt first xs i with
  | some x => if HostFields.owned x then some x.cell else none
  | none => if (d.entry i).state = .free then none else some (d.entry i).cell

/-- A written cell would stand in two non-Free entries (R129). -/
def wouldDuplicate (first : Nat) (xs : List HostFields) (d : Device) : Bool :=
  (indexes 24).any fun i =>
    (writtenAt first xs i).isSome &&
    (indexes 24).any fun j => i != j && (cellAfter first xs d i).isSome && cellAfter first xs d i == cellAfter first xs d j

/-- A write would take a serving entry away from a line it serves (R129). -/
def takesServing (x : HostFields) (e : Entry) : Bool :=
  e.serves && (x.cell != e.cell || (e.servingFor.a && !x.ownA) || (e.servingFor.b && !x.ownB))

/-- The first failing check of a write of neighbour entries (R129). -/
def neighbourFault (first : Nat) (xs : List HostFields) (d : Device) : Option Reason :=
  if 24 < first + xs.length ∨ xs.all hostInRange = false then some .range
  else if wouldDuplicate first xs d then some .duplicate
  else if (indexes 24).any fun i =>
      match writtenAt first xs i with
      | some x => takesServing x (d.entry i)
      | none => false then some .serving
  else none

/-- The host fields of a write stand in an entry. -/
def Entry.withHost (x : HostFields) (e : Entry) : Entry :=
  { e with cell := x.cell, own := ⟨x.ownA, x.ownB⟩, ocn := ⟨x.ocnA, x.ocnB⟩, qoff := x.qoff, inIdle := x.inIdle
           inCall := x.inCall }

/-- What a line keeps in an entry that a write leaves it out of (R129). -/
def Entry.dropLines (e : Entry) : Entry :=
  { e with trig := ⟨if e.own.a then e.trig.a else ⟨0, false, 0⟩, if e.own.b then e.trig.b else ⟨0, false, 0⟩⟩ }

/-- A checked write of one entry (R129). -/
def Entry.write (x : HostFields) (e : Entry) : Entry :=
  let e' := e.withHost x
  if HostFields.owned x = false then e'.toFree
  else if e.state = .free ∨ x.cell ≠ e.cell then e'.toListed
  else e'.dropLines

/-- A checked write of neighbour entries is applied, and the sets change (R129, R132). -/
def writeNeighbours (first : Nat) (xs : List HostFields) (d : Device) : Device :=
  pruneRounds ((indexes 24).foldl (fun d i =>
    match writtenAt first xs i with
    | some x => d.onEntry i (Entry.write x)
    | none => d) d)

/-- The lock clears, and its parked sample is applied unless the write made the entry Free or gave it another cell
(R147, R148). -/
def unlock (k : Lock) (d : Device) : Device := applyParked k (setLock none d)

/-- Write-Unlock of the locked entry. A body that does not fit and a wrong Target are refused before the command is executed,
and change nothing: the lock stays, since R173 splits none here (R174; log entry 38). A write that fails a check of R129 clears
the lock (R148). -/
def unlockWrite (h : CmdHead) (k : Lock) (body : Body HostFields) (d : Device) : Device :=
  match body with
  | .fits x =>
    if h.target ≠ 0 then refuse h 5 .range d
    else
      match neighbourFault k.entry.val [x] d with
      | some r => refuse h 5 r (unlock k d)
      | none => reply h 5 .done (unlock k (writeNeighbours k.entry.val [x] d))
  | .misfit => refuse h 5 .range d

/-- Write-Unlock with no lock on the named entry (R148, R174). -/
def doWriteUnlock (h : CmdHead) (body : Body HostFields) (d : Device) : Device :=
  match body, entryIndex h.index.toNat with
  | .fits _, some _ => if h.target ≠ 0 then refuse h 5 .range d else refuse h 5 .locked d
  | _, _ => refuse h 5 .range d

/-- Write-Unlock is taken: a lock on the entry it names is not split (R148, R173). -/
def takeWriteUnlock (h : CmdHead) (body : Body HostFields) (d : Device) : Device :=
  let d1 := hostAccepted h.linkCount d
  match d1.meas.lock with
  | some k => if k.entry.val = h.index.toNat then unlockWrite h k body d1 else doWriteUnlock h body (splitLock k d1)
  | none => doWriteUnlock h body d1

/-! ### Radio Borrow (R80) -/

/-- Radio Borrow: taken when slot 12 is Idle; its REPLY comes later (R80). -/
def doRadioBorrow (h : CmdHead) (body : Body (Byte × List Byte)) (d : Device) : Device :=
  match body with
  | .fits x =>
    if h.target ≠ 0 ∨ h.index ≠ 0 then refuse h 8 .range d
    else if slotState d 12 = .idle then
      requestSlot 12 (d.onArb fun a => { a with borrow := some ⟨h.tag, x.1, x.2⟩ })
    else refuse h 8 .busy d
  | .misfit => refuse h 8 .range d

/-! ### Sleep Enter and Sleep Exit (R166, R170) -/

/-- Sleep Enter (R166). -/
def doSleepEnter (h : CmdHead) (d : Device) : Device :=
  if idleCond d then
    let d1 := d.onHost fun x => { x with queue := x.queue.filter fun f => !f.isSleepOffer }
    reply h 9 .done (d1.onSleep fun s => { s with lastSleep := none, reasons := [], entry := .waiting, idle := none })
  else refuse h 9 .busy d

/-- Sleep Exit (R170). -/
def doSleepExit (h : CmdHead) (d : Device) : Device := reply h 10 (.data (.lastSleep d.sleep.lastSleep)) d

/-! ### Conditions Read and Conditions Clear (R181, R183) -/

/-- Every condition as Conditions Read gives it (R181). -/
def condRows (d : Device) : List CondRow := Cond.all.map fun c => ⟨(d.cond c).on, (d.cond c).events, (d.cond c).last⟩

/-- A condition is Clear. -/
def clearCond (c : Cond) (d : Device) : Device := d.onCond c fun r => { r with on := false }

/-- Conditions Read: the data is built, and every Raised warning returns to Clear (R181). -/
def doConditionsRead (h : CmdHead) (d : Device) : Device :=
  reply h 12 (.data (.conditions (condRows d)))
    ((Cond.all.filter fun c => !c.isFault).foldl (fun d c => clearCond c d) d)

/-- The cause of a fault is present (R183). -/
def causePresent (c : Cond) (d : Device) : Bool :=
  match c with
  | .f4 => LineId.all.any fun l =>
      (d.lineState l == .lost || d.lineState l == .searching) && (d.line l).lossCause == some .sync
  | .f5 => d.sleep.power == .waking && d.sleep.repulses == 3
  | _ => false

/-- Conditions Clear: each fault whose cause is not present is unlatched (R183). -/
def doConditionsClear (h : CmdHead) (d : Device) : Device :=
  let d1 := (Cond.all.filter fun c => c.isFault && !causePresent c d).foldl (fun d c => clearCond c d) d
  reply h 13 (.data (.faults (Cond.all.filter fun c => c.isFault && (d1.cond c).on))) d1

/-! ### Force Pause (R10) -/

/-- Force Pause: one PAUSE, whatever the fill and the pause state (R10). -/
def doForcePause (h : CmdHead) (body : Body Half) (d : Device) : Device :=
  match body with
  | .fits t =>
    if h.target ≠ 0 ∨ h.index ≠ 0 then refuse h 14 .range d
    else
      match placePause t d with
      | (d1, true) => reply h 14 .done d1
      | (d1, false) => refuse h 14 .busy d1
  | .misfit => refuse h 14 .range d

/-! ### Commands that name nothing (R174, R176) -/

/-- The command number that the REPLY to an unknown command carries (R174, R176). -/
def unknownNumber : Unknown → Byte
  | .shortHead => 0
  | .number n => n
  | .table _ => 2

/-- An unknown command (R174, R176). -/
def doUnknown (h : CmdHead) (why : Unknown) (d : Device) : Device := refuse h (unknownNumber why) .unknown d

end Sys2Proof.Machine
end

