-- ==== Sys2Proof/Machine/Tables.lean ====
section
/-! DEFINITION. Table Write and Table Read (R176): the checks and the application of each table's write, and the items
each table reads as. -/

namespace Sys2Proof.Machine

/-- The general checks of a Table Write: a body that fits, at least one item, and items within the table's `size`
(R174, R176). -/
def tableWrite {α : Type} (h : CmdHead) (target size : Nat) (body : Body (List α))
    (f : List α → Device → Device) (d : Device) : Device :=
  match body with
  | .fits xs =>
    if h.target.toNat = target ∧ xs ≠ [] ∧ h.index.toNat + xs.length ≤ size then f xs d else refuse h 2 .range d
  | .misfit => refuse h 2 .range d

/-! ### Tables 1 and 2 (R37, R38) -/

/-- A start or miss-next index: End, or 0..63 (R24, R25). -/
def ruleIndex : Option Nat → Option (Option (Fin 64))
  | none => some none
  | some n => if h : n < 64 then some (some ⟨n, h⟩) else none

/-- The defaults allowed for an entry's direction (R24). -/
def defaultAllowed (i : Nat) (a : Action) : Bool :=
  if i < 4 then a == .handle || a == .deliver || a == .both || a == .drop
  else a == .track || a == .pass || a == .drop

/-- The checked items of an Entry Table write from an index (R37). -/
def checkEntries : Nat → List EntryWrite → Option (List EntryRec)
  | _, [] => some []
  | i, x :: xs =>
    match ruleIndex x.start, x.default, checkEntries (i + 1) xs with
    | some st, some a, some rest => if i < 6 ∧ defaultAllowed i a = true then some (⟨st, a⟩ :: rest) else none
    | _, _, _ => none

/-- The kinds that a rule may match (R25). -/
def kindListed : Match Kind → Bool
  | .any => true
  | .is k => k == .page || k == .signal || k == .sample || k == .voice

/-- A message type that a rule may name (R25, R28). -/
def typeListed : Match MsgType → Bool
  | .any => true
  | .is t => MsgType.isDefined t

/-- A checked rule (R25, R37). -/
def checkRule (x : RuleWrite) : Option Rule :=
  match x.kind, x.mtype, x.line, x.power, x.action, x.cls, ruleIndex x.missNext with
  | some k, some t, some l, some p, some a, some c, some miss =>
    if h : x.jump < 64 then
      if kindListed k && typeListed t then some ⟨x.inUse, k, t, l, p, a, ⟨x.jump, h⟩, miss, c⟩ else none
    else none
  | _, _, _, _, _, _, _ => none

/-- Every item passes, or none does. -/
def checkAll {α β : Type} (f : α → Option β) : List α → Option (List β)
  | [] => some []
  | x :: xs =>
    match f x, checkAll f xs with
    | some y, some ys => some (y :: ys)
    | _, _ => none

/-- A checked write of a dispatch table: it waits for a walk in progress, and is applied at once where there is none
(R38; log entry 6). -/
def dispatchWrite (h : CmdHead) (w : DispatchWrite) (d : Device) : Device :=
  if d.disp.walking.isSome then d.onDisp fun t => { t with write := some ⟨h.tag, w, false⟩ }
  else reply h 2 .done (applyDispatch w d)

/-- Table Write of table 1 (R37). -/
def doEntryTable (h : CmdHead) (body : Body (List EntryWrite)) (d : Device) : Device :=
  tableWrite h 1 7 body (fun xs d =>
    match checkEntries h.index.toNat xs with
    | some ys => dispatchWrite h (.entries h.index.toNat ys) d
    | none => refuse h 2 .range d) d

/-- Table Write of table 2 (R37). -/
def doDispatchTable (h : CmdHead) (body : Body (List RuleWrite)) (d : Device) : Device :=
  tableWrite h 2 64 body (fun xs d =>
    match checkAll checkRule xs with
    | some ys => dispatchWrite h (.rules h.index.toNat ys) d
    | none => refuse h 2 .range d) d

/-! ### Table 3 (R64) -/

/-- One checked item of table 3 enters the arbiter's settings (R64, R176). -/
def applyClassItem (i : Nat) (x : ClassItem) (a : Arbiter) : Option Arbiter :=
  match x with
  | .cls lv (some rel) fair =>
    if h : i < 7 then
      if lv ≤ 3 then some { a with classes := a.classes.upd ⟨i, h⟩ fun _ => ⟨lv, rel, fair⟩ } else none
    else none
  | .settings (some mode) code => if i = 7 ∧ code ≤ 7 then some { a with mode := mode, code := code } else none
  | _ => none

/-- The items of table 3 from an index; `none` where one fails a check. -/
def applyClassItems : Nat → List ClassItem → Arbiter → Option Arbiter
  | _, [], a => some a
  | i, x :: xs, a =>
    match applyClassItem i x a with
    | some a' => applyClassItems (i + 1) xs a'
    | none => none

/-- Table Write of table 3: applied at once; deferrals are tested afresh, and a free radio is arbitrated for (R64, R70). -/
def doClassTable (h : CmdHead) (body : Body (List ClassItem)) (d : Device) : Device :=
  tableWrite h 3 8 body (fun xs d =>
    match applyClassItems h.index.toNat xs d.arb with
    | some a => reply h 2 .done (arbitrate (leaveDeferred (d.onArb fun _ => a)))
    | none => refuse h 2 .range d) d

/-! ### Tables 4 to 8 (R129, R131, R6, R9, R164, R184) -/

/-- Table Write of table 4 (R129). -/
def doNeighbourTable (h : CmdHead) (body : Body (List HostFields)) (d : Device) : Device :=
  tableWrite h 4 24 body (fun xs d =>
    match neighbourFault h.index.toNat xs d with
    | some r => refuse h 2 r d
    | none => reply h 2 .done (writeNeighbours h.index.toNat xs d)) d

/-- Table Write of table 5: the lock hold limit, 10..255 ms (R131). -/
def doNeighbourSettings (h : CmdHead) (body : Body (List Nat)) (d : Device) : Device :=
  tableWrite h 5 1 body (fun xs d =>
    match xs with
    | [n] => if 10 ≤ n ∧ n ≤ 255 then reply h 2 .done (d.onMeas fun m => { m with lockHold := n }) else refuse h 2 .range d
    | _ => refuse h 2 .range d) d

/-- The ranges of R6. -/
def portsInRange (p : PortParams) : Bool :=
  decide (1 ≤ p.pauseOn ∧ p.pauseOn ≤ 32 ∧ p.pauseOff ≤ 31 ∧ p.pauseOff < p.pauseOn ∧ 1 ≤ p.pauseTime ∧ p.pauseTime ≤ 65535)

/-- Table Write of table 6: it takes effect at once against the present fill (R6, R9). -/
def doPortParameters (h : CmdHead) (body : Body (List PortParams)) (d : Device) : Device :=
  tableWrite h 6 1 body (fun xs d =>
    match xs with
    | [p] =>
      if portsInRange p then
        reply h 2 .done (pauseOnTest (pauseOffTest (d.onModem fun m => { m with params := p })))
      else refuse h 2 .range d
    | _ => refuse h 2 .range d) d

/-- The ranges of R164. -/
def sleepInRange (s : SleepSettings) : Bool :=
  decide (s.idleDelay ≤ 60000 ∧ s.guardCode ≤ 15 ∧ s.maxSleep ≤ 3600 ∧ 10 ≤ s.responseTime ∧ s.responseTime ≤ 5000
    ∧ 1 ≤ s.watermark ∧ s.watermark ≤ 48)

/-- Table Write of table 7: applied at once, with running timers as they are (R164). -/
def doSleepSettings (h : CmdHead) (body : Body (List SleepSettings)) (d : Device) : Device :=
  tableWrite h 7 1 body (fun xs d =>
    match xs with
    | [s] => if sleepInRange s then reply h 2 .done (d.onSleep fun r => { r with settings := s }) else refuse h 2 .range d
    | _ => refuse h 2 .range d) d

/-- The actions that a condition allows: none for a warning (R182, R184). -/
def actionAllowed (c : Cond) (a : Option FaultAction) : Bool :=
  match c, a with
  | .f1, some .report | .f1, some .quiet | .f2, some .report | .f2, some .quiet | .f3, some .report
  | .f4, some .search | .f4, some .stop | .f4, some .report
  | .f5, some .report | .f5, some .stopLines | .f6, some .report | .f6, some .stopLines => true
  | c, none => !c.isFault
  | _, _ => false

/-- The items of table 8 from a condition on are allowed. -/
def condItemsAllowed : List Cond → List CondItem → Bool
  | _, [] => true
  | [], _ :: _ => false
  | c :: cs, x :: xs => actionAllowed c x.action && condItemsAllowed cs xs

/-- The items of table 8 are applied. -/
def applyCondItems : List Cond → List CondItem → Device → Device
  | c :: cs, x :: xs, d =>
    applyCondItems cs xs (d.onCond c fun r => { r with mask := x.mask, action := x.action.getD r.action })
  | _, _, d => d

/-- Table Write of table 8 (R184). -/
def doConditionSettings (h : CmdHead) (body : Body (List CondItem)) (d : Device) : Device :=
  tableWrite h 8 15 body (fun xs d =>
    let cs := Cond.all.drop h.index.toNat
    if condItemsAllowed cs xs then reply h 2 .done (applyCondItems cs xs d) else refuse h 2 .range d) d

/-! ### Tables 9 to 12 (R82, R40) -/

/-- The number of a line's identity table and of its parameter table (R176). -/
def identityTable : LineId → Nat
  | .a => 9
  | .b => 10
def parameterTable : LineId → Nat
  | .a => 11
  | .b => 12

/-- A checked identity (R82). -/
def checkIdentity (x : IdentityWrite) : Option Identity := x.kind.map fun k => ⟨x.value, k, x.valid⟩

/-- Table Write of table 9 or 10: taken while the line is Off (R82). -/
def doIdentityTable (l : LineId) (h : CmdHead) (body : Body (List IdentityWrite)) (d : Device) : Device :=
  tableWrite h (identityTable l) 4 body (fun xs d =>
    if d.lineState l ≠ .off then refuse h 2 .lineActive d
    else
      match checkAll checkIdentity xs with
      | some ys =>
        reply h 2 .done (d.onPaging l fun p => { p with identities := writeItems ys h.index.toNat p.identities })
      | none => refuse h 2 .range d) d

/-- A value within a range. -/
def within (lo hi n : Nat) : Bool := decide (lo ≤ n ∧ n ≤ hi)

/-- One parameter of a line takes a value; `none` where the value is outside its range (R40, R131, R153, R176). -/
def setParam (i : Nat) (v : ParamValue) (p : LineParams) : Option LineParams :=
  match i, v with
  | 0, .num n =>
    if n = 32 ∨ n = 64 ∨ n = 128 ∨ n = 256 then some { p with requestedCycle := n } else none
  | 1, .num n => if within 1 4 n then some { p with listenWindow := n } else none
  | 2, .num n => if within 1 8 n then some { p with listenLead := n } else none
  | 3, .num n => if within 0 255 n then some { p with accessWindow := n } else none
  | 4, .num n => if within 0 255 n then some { p with searchWindow := n } else none
  | 5, .num n => if within 1 60 n then some { p with searchInterval := n } else none
  | 6, .num n => if within 50 1000 n then some { p with radioLinkTimeout := n } else none
  | 7, .num n => if within 5 60 n then some { p with offerGuard := n } else none
  | 8, .num n => if within 5 60 n then some { p with requestGuard := n } else none
  | 9, .num n => if within 5 900 n then some { p with assemblyTimeout := n } else none
  | 10, .mode m => some { p with idleMode := m }
  | 11, .num n => if within 4 255 n then some { p with intervalM := n } else none
  | 12, .num n => if within 64 256 n then some { p with mixedThreshold := n } else none
  | 13, .num n => if within 2 32 n then some { p with intervalG := n } else none
  | 14, .num n => if within 1 8 n then some { p with cellsW := n } else none
  | 15, .num n => if within 0 255 n then some { p with measureWindow := n } else none
  | 16, .num n => if within 0 6 n then some { p with coeffK := n } else none
  | 17, .num n => if within 1 7 n then some { p with missLimit := n } else none
  | 18, .num n => if within 0 60 n then some { p with hys := n } else none
  | 19, .num n => if within 1 15 n then some { p with ttt := n } else none
  | 20, .num n => if within 1 60 n then some { p with reportInterval := n } else none
  | 21, .num n => if within 1 8 n then some { p with reportAmount := n } else none
  | 22, .num n => if within 1 15 n then some { p with tresel := n } else none
  | 23, .num n => if within 0 60 n then some { p with penaltyP := n } else none
  | 24, .num n => if within 0 60 n then some { p with penaltyTime := n } else none
  | 25, .num n => if within 1 255 n then some { p with barTime := n } else none
  | 26, .num n => if within 20 400 n then some { p with reselectDeadline := n } else none
  | _, _ => none

/-- The parameters of a write from an index; `none` where one is outside its range. -/
def setParams : Nat → List ParamValue → LineParams → Option LineParams
  | _, [], p => some p
  | i, v :: vs, p =>
    match setParam i v p with
    | some p' => setParams (i + 1) vs p'
    | none => none

/-- The write includes an item. -/
def includesItem (first n i : Nat) : Bool := decide (first ≤ i ∧ i < first + n)

/-- The write includes a paging or search parameter: items 0, 1, 2, 4 and 5 (R40, R176). -/
def pagingOrSearch (first n : Nat) : Bool := [0, 1, 2, 4, 5].any (includesItem first n)

/-- Table Write of table 11 or 12 (R40, R131, R153); a write of the idle mode or the Mixed threshold decides the
schedule again (R134). -/
def doLineParameters (l : LineId) (h : CmdHead) (body : Body (List ParamValue)) (d : Device) : Device :=
  tableWrite h (parameterTable l) 27 body (fun xs d =>
    let first := h.index.toNat
    if pagingOrSearch first xs.length && d.lineState l != .off then refuse h 2 .lineActive d
    else
      match setParams first xs (d.params l) with
      | some p =>
        let d1 := d.onLine l fun r => { r with params := p }
        reply h 2 .done
          (if includesItem first xs.length 10 || includesItem first xs.length 12 then decideSchedule l d1 else d1)
      | none => refuse h 2 .range d) d

/-! ### Table Read (R24, R176) -/

/-- Every parameter of a line in the order of R176. -/
def paramItems (p : LineParams) : List TableItem :=
  [.num p.requestedCycle, .num p.listenWindow, .num p.listenLead, .num p.accessWindow, .num p.searchWindow,
   .num p.searchInterval, .num p.radioLinkTimeout, .num p.offerGuard, .num p.requestGuard, .num p.assemblyTimeout,
   .mode p.idleMode, .num p.intervalM, .num p.mixedThreshold, .num p.intervalG, .num p.cellsW, .num p.measureWindow,
   .num p.coeffK, .num p.missLimit, .num p.hys, .num p.ttt, .num p.reportInterval, .num p.reportAmount, .num p.tresel,
   .num p.penaltyP, .num p.penaltyTime, .num p.barTime, ParamValue.num p.reselectDeadline].map .param

/-- Every item of a table, in index order; `none` for a number outside 1..12 (R24, R176, R184). -/
def tableItems (t : Nat) (d : Device) : Option (List TableItem) :=
  match t with
  | 1 => some ((indexes 6).map (fun i => .entry (d.disp.entries.get i)) ++ [.entry ⟨none, .handle⟩])
  | 2 => some ((indexes 64).map fun i => .rule (d.disp.rules.get i))
  | 3 => some ((indexes 7).map (fun i => .cls (d.arb.classes.get i)) ++ [.settings d.arb.mode d.arb.code])
  | 4 => some ((indexes 24).map fun i => .neighbour (entryView i d))
  | 5 => some [.lockHold d.meas.lockHold]
  | 6 => some [.ports d.modem.params]
  | 7 => some [.sleep d.sleep.settings]
  | 8 => some (Cond.all.map fun c => .cond (d.cond c).mask (condAction c d))
  | 9 => some ((indexes 4).map fun i => .identity ((d.page .a).identities.get i))
  | 10 => some ((indexes 4).map fun i => .identity ((d.page .b).identities.get i))
  | 11 => some (paramItems (d.params .a))
  | 12 => some (paramItems (d.params .b))
  | _ => none

/-- The REPLY payload that carries a number of items. -/
def readReply (xs : List TableItem) : Reply := ⟨3, .data (.items xs.length xs)⟩

/-- As many whole items as fit in one payload, of the first `n` (R176; log entry 4). -/
def fitItems (xs : List TableItem) : Nat → List TableItem
  | 0 => []
  | n + 1 =>
    let ys := xs.take (n + 1)
    if (HostPayload.reply (readReply ys)).bytes.length ≤ Config.maxPayload then ys else fitItems xs n

/-- Table Read (R176). A body that does not fit is refused with Range before the table number is looked at (DEDUCED, log entry 36). -/
def doTableRead (h : CmdHead) (body : Body Nat) (d : Device) : Device :=
  match body with
  | .misfit => refuse h 3 .range d
  | .fits n =>
    match tableItems h.target.toNat d with
    | none => refuse h 3 .unknown d
    | some xs =>
      if n = 0 ∨ xs.length < h.index.toNat + n then refuse h 3 .range d
      else reply h 3 (readReply (fitItems ((xs.drop h.index.toNat).take n) n)).outcome d

/-- Table Read of a dispatch table waits for a walk in progress to end: the walk ends with its action, and then the table is read
(R38, R173; log entry 6). -/
def readTable (h : CmdHead) (body : Body Nat) (d : Device) : Device :=
  doTableRead h body (if h.target = 1 ∨ h.target = 2 then finishWalk d else d)

end Sys2Proof.Machine
end

