-- ==== Sys2Proof/Machine/Status.lean ====
section
/-! DEFINITION. Status Read (R177), Warm Reset (R178) and Cold Reset (R23). -/

namespace Sys2Proof.Machine

/-! ### Status Read (R177) -/

/-- The lock as a line's section reports it: in the section of the entry's lead owner, in both when both lines own the
entry, and in Line A's when none does (R177). -/
def lockFor (l : LineId) (k : Lock) (d : Device) : Bool :=
  let e := d.entry k.entry
  if e.unowned then l == .a else e.own.get l

/-- A line's section; `lock` is the lock as it stood when the command was taken (R177). -/
def lineStatus (l : LineId) (lock : Option Lock) (d : Device) : LineStatus :=
  let shown : Option Lock :=
    match lock with
    | some k => if lockFor l k d then some k else none
    | none => none
  { line := d.line l, holdFill := (d.line l).hold.length, paging := d.page l, offset := occasionOffset l d
    requestFrame := requestFrame l d, text := d.text.counts.get l, calls := d.calls.counts.get l
    measSet := measSet l d, meas := d.measLine l, move := d.move.get l, deadline := deadlineTimer l d
    lock := shown.map fun k => (k.entry, k.left), split := shown.isSome }

/-- The number of queued frames of a class. -/
def classFill (c : Cls) (d : Device) : Nat := (d.host.queue.filter fun f => f.cls == c).length

/-- The section of ports and dispatch (R177). -/
def portsStatus (d : Device) : PortsStatus :=
  { modem := ⟨d.modem.outCount, d.modem.lastCount, d.modem.lastError⟩
    host := ⟨d.host.outCount, d.host.lastCount, d.host.lastError⟩
    intakeFill := d.modem.intake.length, pausing := d.modem.pausing
    urgent := classFill .urgent d, normal := classFill .normal d, bulk := classFill .bulk d
    voiceFill := d.host.voice.length, voiceLane := d.modem.voiceLane.length, orderLane := d.modem.orderLane.length
    deviceLane := d.modem.deviceLane.length, hostLane := d.modem.hostLane.length, pauseTimer := d.host.pauseTimer
    overflow := d.disp.overflow }

/-- The assembly list as Status Read gives it (R108). -/
def textRows (d : Device) : List TextRow :=
  d.text.order.filterMap fun r =>
    (d.text? r).map fun x =>
      { number := r, state := x.state, line := x.line, sender := x.sender, total := x.total
        received := x.parts.map (·.1), age := x.age, timer := x.timer }

/-- The contents of a section (R177). -/
def statusSection (t : Nat) (lock : Option Lock) (d : Device) : Option StatusData :=
  match t with
  | 1 => some (.line (lineStatus .a lock d))
  | 2 => some (.line (lineStatus .b lock d))
  | 3 => some (.ports (portsStatus d))
  | 4 => some (.radio ((indexes 13).map (slotState d)) ((indexes 13).map d.slot) d.arb.holder d.arb.nextWindow
      d.arb.pointer d.arb.mode)
  | 5 => some (.texts ((indexes 48).filter fun i => (d.text.pool.get i).isNone).length (textRows d))
  | 6 => some (.calls ((indexes 4).map d.call))
  | 7 => some (.sleep d.sleep)
  | 8 => some (.conditions (condRows d))
  | _ => none

/-- Status Read (R177). -/
def doStatusRead (h : CmdHead) (body : Body Unit) (lock : Option Lock) (d : Device) : Device :=
  match body, statusSection h.target.toNat lock d with
  | .fits _, some x => if h.index ≠ 0 then refuse h 11 .range d else reply h 11 (.data (.status x)) d
  | _, _ => refuse h 11 .range d

/-! ### Resets (R15, R22, R23, R26, R61, R81, R95, R108, R126, R149, R150, R172, R178, R179) -/

/-- The Modem Port at Warm Reset: a PAUSE 0 where it was Pausing, and a CANCEL for a held window (R15, R81). -/
def ModemPort.warm (m : ModemPort) (held : Option Holder) : ModemPort :=
  { m with
    intake := [], pausing := none, voiceLane := [], hostLane := [], outCount := 0, lastCount := none, lastError := none
    deviceLane := if m.pausing.isSome then [⟨0, 0, 0, .pause 0⟩] else []
    orderLane := match held with
      | some h => [⟨LineId.toField (slotLine h.slot), 0, 0, .order ⟨.cancel, h.window, 0, .none⟩⟩]
      | none => [] }

/-- The Host Port at Warm Reset; frames still on the link wait there (R22, R26, R178). -/
def HostPort.warm (p : HostPort) : HostPort :=
  { p with
    queue := [], seq := 0, voice := [], pauseTimer := none, outCount := 0, lastCount := none, lastError := none
    input := none }

/-- The Dispatcher at Warm Reset: its tables are kept (R24 to R26, R30). -/
def Dispatcher.warm (t : Dispatcher) : Dispatcher :=
  { t with lastTurn := .host, overflow := none, write := none, walking := none }

/-- The arbiter at Warm Reset: its settings and the next window number are kept (R81). -/
def Arbiter.warm (a : Arbiter) : Arbiter :=
  { a with slots := Tab.fill .reset, holder := none, pointer := 12, borrow := none }

/-- An entry at Warm Reset (R127, R149). -/
def Entry.warm (e : Entry) : Entry :=
  if e.unowned then e.toFree else { e.toListed with servingFor := Pair.both false }

/-- The Measurement Unit at Warm Reset (R149). -/
def MeasUnit.warm (m : MeasUnit) : MeasUnit :=
  { m with entries := m.entries.all Entry.warm, lock := none, lines := Pair.both .reset }

/-- A condition at Warm Reset: its mask and action are kept (R179). -/
def CondRec.warm (r : CondRec) : CondRec := { r with on := false, events := 0, last := none }

/-- Every block at Warm Reset, at one moment (R178). -/
def Device.warm (d : Device) : Device :=
  { inReset := d.inReset
    lastReset := .warm
    modem := d.modem.warm d.arb.holder
    host := d.host.warm
    disp := d.disp.warm
    lines := ⟨.reset d.lines.a.params, .reset d.lines.b.params⟩
    arb := d.arb.warm
    paging := ⟨.reset d.paging.a.identities, .reset d.paging.b.identities⟩
    text := .reset
    calls := .reset
    meas := d.meas.warm
    move := Pair.both .reset
    sleep := .reset d.sleep.settings
    conds := d.conds.all CondRec.warm }

/-- Warm Reset: the idle condition holds then, so the idle timer starts at the idle delay, and the REPLY is offered, which breaks
the condition. The reset itself offers no notice, with an idle delay of 0 too (R172, R178). -/
def doWarmReset (h : CmdHead) (d : Device) : Device :=
  reply h 15 .done (d.warm.onSleep fun s => { s with idle := some s.settings.idleDelay })

/-- Warm Reset is taken: a lock is cleared as a reset, without a split (R173), and a walk in progress ends first, with its action
(R38, R178). -/
def takeWarmReset (h : CmdHead) (body : Body Unit) (d : Device) : Device :=
  plainCommand h 15 body (fun d => doWarmReset h (finishWalk d)) (hostAccepted h.linkCount d)

/-- RESET-N goes low: both links fall silent, a frame partly sent is cut off, WAKE is deasserted, and frames are not
received (R23). -/
def enterReset (d : Device) : Device :=
  { d with
    inReset := true
    host := { d.host with sending := none, link := [] }
    modem := { d.modem with sent := none }
    sleep := { d.sleep with wake := false, repulse := none } }

end Sys2Proof.Machine
end

