-- ==== Sys2Proof/Machine/Windows.lean ====
section
/-! DEFINITION. The windows of the radio (chapter 4): READY, DONE, the watches over a holder, what each owner does when
it is told, and the statuses that stand beside them. -/

namespace Sys2Proof.Machine

/-! ### What owners do when told (R75) -/

/-- A new ACCESS request while the line's Hold still holds frames, but on a line that a stop has taken out (R53, R55, R73;
log entry 33). -/
def accessAgain (l : LineId) (d : Device) : Device :=
  match d.lineState l with
  | .off | .stopping => d
  | .searching | .camped | .connected | .moving | .lost =>
    if (d.line l).hold = [] then d else requestSlot (slotOf .access l) d

/-- The Radio Borrow in hand is answered (R80). -/
def answerBorrow (how : BorrowEnd) (d : Device) : Device :=
  match d.arb.borrow with
  | some b =>
    (offer (replyFrame b.tag 8 (.data (.borrow how))) (d.onArb fun a => { a with borrow := none })).1
  | none => d

/-- A SEARCH window that outlived a stop, or that LINK-RESTART withdraws, is over: it chooses nothing (R47, R55). -/
def staleSearchOver (l : LineId) (d : Device) : Device :=
  d.onLine l fun r => { r with staleSearch := false, found := [] }

/-- The owner is told that its window is open (R46, R53, R75, R156). -/
def tellOpen (i : Fin 13) (d : Device) : Device :=
  let l := slotCountLine i
  match slotClass i with
  | .access => emptyHold l d
  | .search => d.onLine l fun r => { r with found := [] }
  | .move => moveOpened l d
  | .traffic | .paging | .measure | .borrow => d

/-- A line's PAGING window has ended: its watch ends, and a line scheduled as Cycle-aligned asks for a MEASURE window
(R85, R134). -/
def pagingEnded (l : LineId) (d : Device) : Device :=
  let granted :=
    match (d.page l).watch with
    | some w => w.granted
    | none => false
  let d1 := if granted then endWatch l d else d
  if d.lineState l = .camped ∧ (d.measLine l).sched = .cycleAligned ∧ (d.page l).state = .watching
      ∧ d.reselecting l = false then requestSlot (slotOf .measure l) d1
  else d1

/-- The owner is told that its window ended by DONE or by overrun (R47, R53, R75, R76, R80, R85, R134, R156). -/
def tellEnded (i : Fin 13) (how : BorrowEnd) (d : Device) : Device :=
  let l := slotCountLine i
  match slotClass i with
  | .access => accessAgain l d
  | .search =>
    if (d.line l).staleSearch then staleSearchOver l d
    else if d.lineState l = .searching then searchEnd l d else d
  | .move => moveEnded l .windowEnded d
  | .paging => pagingEnded l d
  | .borrow => answerBorrow how d
  | .traffic | .measure => d

/-- The Paging Unit is told that its grant failed: the occasion is missed (R85, R86). -/
def pagingFailed (l : LineId) (d : Device) : Device :=
  match (d.page l).watch with
  | some w => if w.granted then endWatch l (countMissed l d) else d
  | none => d

/-- The owner is told that its grant failed (R45, R53, R73, R80, R85, R136, R156). -/
def tellFailed (i : Fin 13) (d : Device) : Device :=
  let l := slotCountLine i
  match slotClass i with
  | .access => accessAgain l d
  | .search =>
    if (d.line l).staleSearch then staleSearchOver l d
    else if d.lineState l = .searching then searchFailed l d else d
  | .move => moveEnded l .noGrant d
  | .paging => pagingFailed l d
  | .measure => restorePos l d
  | .borrow => answerBorrow .noReady d
  | .traffic => d

/-! ### The grant handshake (R72, R73) -/

/-- The holder enters Active, and its owner is told (R72). -/
def openWindow (h : Holder) (d : Device) : Device :=
  tellOpen h.slot (d.onArb fun a =>
    { a with holder := some { h with phase := .active, grantTimer := none, count := 0 } })

/-- An OnRequest holder that has just become Active is asked to yield at once (R72, R74). Where its owner has given a follow-on
order as the window opened, the follow-on stands and no SUSPEND is sent, then or at its READY: the manual does not order the two
(DESIGN CHOICE, log entry 47). -/
def yieldAtReady (h : Holder) (d : Device) : Device :=
  let pressed := (indexes 13).any fun j => isPending d j && (d.slot j).pended && presses d h j
  match d.arb.holder with
  | some k =>
    if k.window = h.window ∧ k.phase = .active ∧ h.release = .onRequest ∧ (h.released || pressed) = true then suspend k d
    else d
  | none => d

/-- A stale READY draws a CANCEL carrying its own number; no slot's line is known for it, so the order names line 0
(R72; log entry 32). -/
def cancelStale (w : Byte) (d : Device) : Device := placeOrder none ⟨.cancel, w, 0, .none⟩ d

/-- A READY (R72). -/
def readyStatus (w : Byte) (d : Device) : Device :=
  match d.arb.holder with
  | some h =>
    if h.window = w then
      if h.phase = .granted then yieldAtReady h (openWindow h d) else d
    else cancelStale w d
  | none => cancelStale w d

/-- A window ends, by DONE or by overrun (R75, R76). -/
def endWindow (h : Holder) (how : BorrowEnd) (d : Device) : Device :=
  arbitrate (tellEnded h.slot how (endHold h d))

/-- A DONE (R74, R75): one taken in Granted counts as a READY followed at once by it, with no yield between. -/
def doneStatus (w : Byte) (d : Device) : Device :=
  match d.arb.holder with
  | some h =>
    if h.window = w then
      if h.phase = .granted then
        let d1 := openWindow h d
        match d1.arb.holder with
        | some k => if k.window = w then endWindow k .ended d1 else d1
        | none => d1
      else endWindow h .ended d
    else d
  | none => d

/-- The Line field of an event of a slot. -/
def slotField (i : Fin 13) : BitVec 2 := LineId.toField (slotLine i)

/-- The grant timer expires (R73). -/
def grantFailed (h : Holder) (d : Device) : Device :=
  let d1 := tellFailed h.slot (endHold h (cancel h d))
  arbitrate (raise .w4 (slotField h.slot) h.slot.val d1)

/-- A window is ended by the watch, or by the suspend limit (R74, R76). -/
def windowOverran (h : Holder) (d : Device) : Device :=
  endWindow h .overrun (raise .w5 (slotField h.slot) h.slot.val (cancel h d))

/-! ### SYNC-FOUND, SYNC-LOST and LINK-RESTART (R57, R59, R79) -/

/-- A SYNC-FOUND: the Line Controller first, and then the owner of the slot that holds the radio (R79). -/
def syncFoundStatus (c : Cell) (d : Device) : Device :=
  let d1 := lineSync servingSyncFound c d
  match d1.arb.holder with
  | some h => if slotClass h.slot = .move then moveSyncFound (slotCountLine h.slot) c d1 else d1
  | none => d1

/-- A SYNC-LOST: the Line Controller takes it, and the Move Unit passes over one that reaches it (R57, R79, R154). -/
def syncLostStatus (c : Cell) (d : Device) : Device := lineSync servingSyncLost c d

/-- Every slot goes to Idle without a CANCEL, and the owners of those that were not Idle are told (R79). The found list of a SEARCH
window withdrawn so is discarded, on a line that a stop has taken out as well (R47). -/
def idleEverySlot (d : Device) : Device :=
  let d1 := setArb (fun a => { a with slots := Tab.fill .reset, holder := none }) d
  let d2 := (indexes 13).foldl (fun x i => tellWithdrawn i (slotState d i) x) d1
  let d3 := LineId.all.foldl (fun x l => if (slotState d (slotOf .search l)).holds then staleSearchOver l x else x) d2
  answerBorrow .withdrawn d3

/-- What LINK-RESTART does to a line (R59, R160). -/
def restartLine (d : Device) (l : LineId) : Device :=
  match d.lineState l with
  | .off | .lost => d
  | .searching => searchRequest l (d.onLine l fun r => { r with found := [] })
  | .camped => enterSearching l (clearMove l d)
  | .connected => lostRestart l d
  | .moving => lostRestart l (finishMove l .lost .restart false d)
  | .stopping => stoppingEnds l (releaseAll l d)

/-- A LINK-RESTART (R59, R79, R182). The rule gives no order of the lines: Line A's transition comes before Line B's (DESIGN
CHOICE, log entry 46). -/
def linkRestartStatus (d : Device) : Device :=
  let d1 := raise .f6 0 0 (LineId.all.foldl restartLine (idleEverySlot d))
  if (d1.cond .f6).action = .stopLines then stopLines d1 else d1

/-! ### RADIO frames (R4, R79) -/

/-- A status that lacks its fields is discarded (R79). The Line field of a RADIO frame is not used (R4). -/
def malformedStatus (d : Device) : Device := raise .w1 0 0 d

/-- A RADIO status by its name (R79). -/
def radioStatus (f : Fields) (d : Device) : Device :=
  match f.status, f.window, f.cell with
  | some .ready, some w, _ => readyStatus w d
  | some .done, some w, _ => doneStatus w d
  | some .syncFound, _, some c => syncFoundStatus c d
  | some .syncLost, _, some c => syncLostStatus c d
  | some .linkRestart, _, _ => linkRestartStatus d
  | _, _, _ => malformedStatus d

end Sys2Proof.Machine
end

