-- ==== Sys2Proof/Machine/Ports.lean ====
section
/-! DEFINITION. The two ports (chapter 1): intake, transmission on both links, the host's PAUSE, and the frames that wait
on the host link (R26, R173). -/

namespace Sys2Proof.Machine

/-! ### Modem intake (R4, R5, R7) -/

/-- A frame that fails an intake test at the Modem Port (R5). -/
def modemError (e : IntakeError) (d : Device) : Device :=
  raise .w1 0 e.number (d.onModem fun m => { m with lastError := some e })

/-- A frame from the modem has passed the intake tests: its Link Count is recorded (R5). -/
def modemAccepted (count : Half) (d : Device) : Device := d.onModem fun m => { m with lastCount := some count }

/-- An accepted frame joins the Intake Queue, or is discarded when it is full (R7, R8). -/
def joinIntake (f : LinkFrame) (d : Device) : Device :=
  if d.modem.intake.length < Config.intakeCap then
    pauseOnTest (d.onModem fun m => { m with intake := m.intake ++ [f] })
  else if f.kind = .sample then raise .w3 f.line 0 d
  else raise .f1 f.line 0 d

/-- A delimited frame from the modem (R4, R5). -/
def modemFrame (f : WireFrame) (d : Device) : Device :=
  match intakeError .modem f.bytes with
  | some e => modemError e d
  | none =>
    let h := headerOf f.bytes
    match h.kind with
    | some k =>
      let d1 := modemAccepted h.linkCount d
      if k = .radio then radioStatus f.fields d1 else joinIntake (linkFrameOf f k) d1
    | none => d

/-! ### Host intake (R4, R5, R19, R26) -/

/-- A frame that fails an intake test at the Host Port; it is no host arrival (R4, R5). -/
def hostError (e : IntakeError) (d : Device) : Device :=
  raise .w2 0 e.number (d.onHost fun h => { h with lastError := some e })

/-- A delimited SIGNAL or VOICE frame from the host; bytes of another kind are the matter of another row (R4, R26;
log entry 8). -/
def hostFrame (f : WireFrame) (d : Device) : Device :=
  match intakeError .host f.bytes with
  | some e => hostError e d
  | none =>
    let h := headerOf f.bytes
    match h.kind with
    | some .signal => (hostAccepted h.linkCount d).onHost fun p => { p with input := some (linkFrameOf f .signal) }
    | some .voice => (hostAccepted h.linkCount d).onHost fun p => { p with input := some (linkFrameOf f .voice) }
    | _ => d

/-- The host pause timer's start: the time is in units of 10 ms, and 0 stops it (R19). -/
def pauseTimerOf (t : Half) : Option Nat := if t = 0 then none else some (10 * t.toNat)

/-- A delimited PAUSE from the host (R4, R19). -/
def hostPauseFrame (bytes : List Byte) (d : Device) : Device :=
  match intakeError .host bytes with
  | some e => hostError e d
  | none =>
    let h := headerOf bytes
    if h.kind = some .pause then
      let d1 := hostAccepted h.linkCount d
      match pauseTimeOf (payloadOf bytes) with
      | some t => d1.onHost fun p => { p with pauseTimer := pauseTimerOf t }
      | none => raise .w2 0 0 d1
    else d

/-- A delimited frame from the host that fails an intake test; bytes that fail none do nothing here (R5; log entry 8). -/
def hostBadFrame (bytes : List Byte) (d : Device) : Device :=
  match intakeError .host bytes with
  | some e => hostError e d
  | none => d

/-! ### What the Host Port takes in from its link (R26, R173) -/

/-- The port takes in the next frame of the host link: a frame of each row as its own rule states. Rows that come from
elsewhere never stand on the link. -/
def receive (i : Instr) (d : Device) : Device :=
  match i with
  | .hostFrameIntake f => hostFrame f d
  | .hostPause bytes => hostPauseFrame bytes d
  | .hostLinkFrameError bytes => hostBadFrame bytes d
  | .identify h body => takeCommand h (fun _ => plainCommand h 1 body (doIdentify h)) d
  | .entryTableWrite h body w => takeCommand h (fun _ => doEntryTable h body) (if w then beginWalk d else d)
  | .dispatchTableWrite h body w => takeCommand h (fun _ => doDispatchTable h body) (if w then beginWalk d else d)
  | .classTableWrite h body => takeCommand h (fun _ => doClassTable h body) d
  | .neighbourTableWrite h body => takeCommand h (fun _ => doNeighbourTable h body) d
  | .neighbourSettingsWrite h body => takeCommand h (fun _ => doNeighbourSettings h body) d
  | .portParametersWrite h body => takeCommand h (fun _ => doPortParameters h body) d
  | .sleepSettingsWrite h body => takeCommand h (fun _ => doSleepSettings h body) d
  | .conditionSettingsWrite h body => takeCommand h (fun _ => doConditionSettings h body) d
  | .identityTableWrite l h body => takeCommand h (fun _ => doIdentityTable l h body) d
  | .lineParametersWrite l h body => takeCommand h (fun _ => doLineParameters l h body) d
  | .tableRead h body => takeCommand h (fun _ => readTable h body) d
  | .lockRead h body => takeCommand h (fun _ => doLockRead h body) d
  | .writeUnlock h body => takeWriteUnlock h body d
  | .lineStart h body => takeCommand h (fun _ => doLineStart h body) d
  | .lineStop h body => takeCommand h (fun _ => doLineStop h body) d
  | .radioBorrow h body => takeCommand h (fun _ => doRadioBorrow h body) d
  | .sleepEnter h body => takeCommand h (fun _ => plainCommand h 9 body (doSleepEnter h)) d
  | .sleepExit h body => takeCommand h (fun _ => plainCommand h 10 body (doSleepExit h)) d
  | .statusRead h body => takeCommand h (fun lock => doStatusRead h body lock) d
  | .conditionsRead h body => takeCommand h (fun _ => plainCommand h 12 body (doConditionsRead h)) d
  | .conditionsClear h body => takeCommand h (fun _ => plainCommand h 13 body (doConditionsClear h)) d
  | .forcePause h body => takeCommand h (fun _ => doForcePause h body) d
  | .warmReset h body => takeWarmReset h body d
  | .unknownCommand h why => takeCommand h (fun _ => doUnknown h why) d
  | .coldReset | .resetNLow | .modemFrameIntake _ | .ready _ _ | .done _ _ | .syncFound _ _ | .syncLost _ _
  | .linkRestart _ | .hostPauseExpiry | .pauseRepeatExpiry | .dispatchWalk | .dispatchWriteApply | .modemTransmitStart
  | .hostTransmitStart | .hostTransmitEnd | .frameBoundary _ | .occasionEndMiss _ | .recentPageExpiry _
  | .radioLinkExpiry _ | .searchRetryExpiry _ | .grantTimeout | .windowOverrun | .suspendLimit
  | .measurementTimerExpiry _ | .deadlineExpiry _ | .tuneExtension _ | .penaltyExpiry _ | .barExpiry _
  | .lockHoldExpiry | .offerGuardExpiry _ | .requestGuardExpiry _ | .clearingGuardExpiry _ | .assemblyTimerExpiry _
  | .idleTimerExpiry | .wakeGuardExpiry | .maxSleepExpiry | .wakeResponseExpiry | .wakeRepulseEnd => d

/-- The Host Port takes in nothing: its input place holds a frame, or the command place holds a command (R26, R173). -/
def linkBlocked (d : Device) : Bool := d.host.input.isSome || d.disp.write.isSome

/-- A frame arrives on the host link: it is taken in, or waits behind what holds the port (R26, R173; log entry 7). -/
def arrive (i : Instr) (d : Device) : Device :=
  if linkBlocked d || d.host.link != [] then d.onHost fun h => { h with link := h.link ++ [i] } else receive i d

/-- The frames that waited are taken in, in order, until one holds the port again (R26, R173). -/
def takeWaiting : List Instr → Device → Device
  | [], d => d.onHost fun h => { h with link := [] }
  | i :: rest, d => if linkBlocked d then d.onHost fun h => { h with link := i :: rest } else takeWaiting rest (receive i d)

/-- The Host Port resumes reception (R26). -/
def resumeLink (d : Device) : Device := takeWaiting d.host.link d

/-! ### Toward the modem (R2, R3, R12, R14) -/

/-- A frame of the Host lane may be sent: its line is not Moving (R14). -/
def mayLeave (d : Device) (f : ModemFrame) : Bool :=
  match LineId.ofField f.line with
  | some l => d.lineState l != .moving
  | none => true

/-- The transmission of a frame begins on the modem link: it takes the Link Count, and its check (R2, R3). -/
def sendModem (f : ModemFrame) (d : Device) : Device :=
  let g := f.onWire
  d.onModem fun m =>
    { m with
      sent := some ⟨g, m.outCount, frameCheck g.payload.kind g.line g.cls g.tag m.outCount g.payload.bytes⟩
      outCount := m.outCount + 1 }

/-- The selector starts one frame: the first lane that holds one, in the order Voice, Order, Device, Host (R12 to R14). -/
def modemTransmit (d : Device) : Device :=
  match d.modem.voiceLane, d.modem.orderLane, d.modem.deviceLane, d.modem.hostLane.find? (mayLeave d) with
  | f :: rest, _, _, _ => sendModem f (d.onModem fun m => { m with voiceLane := rest })
  | [], f :: rest, _, _ => sendModem f (d.onModem fun m => { m with orderLane := rest })
  | [], [], f :: rest, _ => sendModem f (d.onModem fun m => { m with deviceLane := rest })
  | [], [], [], some f =>
    reofferHolds (sendModem f (d.onModem fun m => { m with hostLane := eraseFirst (mayLeave d) m.hostLane }))
  | [], [], [], none => d

/-! ### Toward the host (R3, R20, R21) -/

/-- The transmission of a frame begins on the host link (R2, R3). -/
def sendHost (f : HostFrame) (d : Device) : Device :=
  d.onHost fun h =>
    { h with
      sending := some ⟨f, h.outCount,
        frameCheck f.payload.kind f.line (clsCode f.cls) f.tag h.outCount f.payload.bytes⟩
      outCount := h.outCount + 1 }

/-- The head of the Host-bound Queue may be sent (R20). -/
def queueOpen (d : Device) : Bool :=
  d.host.pauseTimer.isNone && (d.sleep.power == .awake || d.sleep.power == .offered)

/-- The REPLY to Sleep Enter is on the link (R166; log entry 29). -/
def noteSleepReply (f : HostFrame) (d : Device) : Device :=
  if f.isSleepEnterReply ∧ d.sleep.entry = .waiting then d.onSleep fun s => { s with entry := .sending } else d

/-- The head of the queue leaves it: the idle condition may return, and a place has freed (R20, R104, R165). -/
def sendQueued (f : HostFrame) (rest : List HostFrame) (d : Device) : Device :=
  let d1 := withIdle (fun d => d.onHost fun h => { h with queue := rest }) (noteSleepReply f (sendHost f d))
  placeFreed d1

/-- The host link is free: a voice frame is sent, or the head of the queue (R20). -/
def hostTransmit (d : Device) : Device :=
  match d.host.sending, d.host.voice, d.host.queue with
  | none, f :: rest, _ => sendHost f (d.onHost fun h => { h with voice := rest })
  | none, [], f :: rest => if queueOpen d then sendQueued f rest d else d
  | _, _, _ => d

/-- The frame on the host link has been sent (R20). -/
def hostSent (d : Device) : Device :=
  match d.host.sending with
  | some x => frameSent x.frame (d.onHost fun h => { h with sending := none })
  | none => d

end Sys2Proof.Machine
end

