-- ==== Sys2Proof/Machine/Time.lean ====
section
/-! DEFINITION. What time brings: the frame boundary (R42), and each timer's expiry. A timer in ms that still runs when
its expiry is taken is first brought to it (log entry 2); a count of boundaries expires only when it has run out (log
entry 3). -/

namespace Sys2Proof.Machine

/-- An expiry of a timer in ms: the time it has left passes first (log entry 2). -/
def afterMs (t : Option Nat) (f : Device → Device) (d : Device) : Device :=
  match t with
  | some n => f (passMs n d)
  | none => d

/-! ### The frame boundary (R42, R57, R74, R76, R84, R94, R134, R135, R153) -/

/-- The holder counts the boundaries of its slot's line while Active or Yielding (R74, R76). -/
def holderBoundary (l : LineId) (h : Holder) : Holder :=
  if slotCountLine h.slot = l ∧ h.phase ≠ .granted then { h with count := h.count + 1 } else h

/-- A move's deadline counts while its slot is Active (R153). -/
def deadlineBoundary (l : LineId) (d : Device) : Device :=
  if slotState d (moveSlot l) = .active then
    onMoveRec l (fun m => if m.phase = .waitingGrant then m else { m with deadline := m.deadline - 1 }) d
  else d

/-- A line's frame boundary: the counter advances, every count of its boundaries moves, and the occasion test is made. -/
def boundary (l : LineId) (d : Device) : Device :=
  let d1 := deadlineBoundary l d
  let d2 := d1.onArb fun a => { a with holder := a.holder.map (holderBoundary l) }
  let d3 := d2.onLine l fun r => { r with frame := r.frame + 1, radioLink := r.radioLink.boundary }
  let d4 := d3.onMeasLine l fun m => { m with timer := m.timer.boundary }
  occasionTest l (d4.onPaging l pagingBoundary)

/-! ### Expiries counted in boundaries -/

/-- A line's radio-link timer expires (R57; log entry 15). -/
def radioLinkExpired (l : LineId) (d : Device) : Device :=
  match (d.line l).radioLink, d.lineState l with
  | .running 0, .connected | .running 0, .camped =>
    servingLost l (d.onLine l fun r => { r with radioLink := .stopped })
  | _, _ => d

/-- The items of the Recent Page List that have run out leave it (R94). -/
def recentExpired (l : LineId) (d : Device) : Device := d.onPaging l fun p => { p with recent := p.recent.filter fun r => 0 < r.left }

/-- The window watch of a WhenDone holder has run out (R76). -/
def overrunReached (d : Device) : Device :=
  match d.arb.holder with
  | some h =>
    if h.phase = .active ∧ h.release = .whenDone ∧ h.length + Config.overrunFrames ≤ h.count then windowOverran h d else d
  | none => d

/-- The suspend limit has passed (R74). -/
def suspendReached (d : Device) : Device :=
  match d.arb.holder with
  | some h => if h.phase = .yielding ∧ Config.suspendFrames ≤ h.count then windowOverran h d else d
  | none => d

/-- A line's measurement timer expires: the MEASURE slot is requested, and the timer restarts (R134, R135). -/
def measurementExpired (l : LineId) (d : Device) : Device :=
  let m := d.measLine l
  if m.timer = .running 0 then
    let n := if m.sched = .connected then (d.params l).intervalG else (d.params l).intervalM
    requestSlot (slotOf .measure l) (d.onMeasLine l fun x => { x with timer := .running n })
  else d

/-- A move's deadline timer expires, its slot being Active (R153, R156, R157, R159). -/
def deadlineExpired (l : LineId) (d : Device) : Device :=
  match d.moveRec l with
  | some m => if m.deadline = 0 ∧ slotState d (moveSlot l) = .active then deadlineReached l m d else d
  | none => d

/-- A Tuning or Confirming window has been Active for 256 boundaries with deadline left (R153). -/
def tuneExtended (l : LineId) (d : Device) : Device :=
  match d.moveRec l, holding (moveSlot l) d with
  | some m, some h =>
    if (m.phase = .tuning ∨ m.phase = .confirming) ∧ h.phase = .active ∧ 256 ≤ h.count ∧ m.extended = false
        ∧ 0 < m.deadline then extendTune l h m d
    else d
  | _, _ => d

/-! ### Expiries counted in ms or s -/

/-- The host pause timer expires (R19). -/
def hostPauseExpired (d : Device) : Device :=
  afterMs d.host.pauseTimer (fun d => d.onHost fun h => { h with pauseTimer := none }) d

/-- The repeat timer expires: PAUSE is sent again, and the timer restarts (R8). -/
def pauseRepeatExpired (d : Device) : Device := afterMs d.modem.pausing startPausing d

/-- The search retry timer expires (R49). -/
def searchRetryExpired (l : LineId) (d : Device) : Device :=
  afterMs (d.line l).retry (fun d =>
    let d1 := d.onLine l fun r => { r with retry := none }
    if d1.lineState l = .searching then searchRequest l d1 else d1) d

/-- The grant timer expires, the slot being Granted (R73). -/
def grantExpired (d : Device) : Device :=
  match d.arb.holder with
  | some h =>
    if h.phase = .granted then
      afterMs h.grantTimer (fun d =>
        match d.arb.holder with
        | some k => grantFailed k d
        | none => d) d
    else d
  | none => d

/-- An entry's penalty timer expires (R146). -/
def penaltyExpired (i : Fin 24) (d : Device) : Device :=
  afterMs (d.entry i).penalty (fun d => d.onEntry i fun e => { e with penalty := none }) d

/-- An entry's bar timer expires: it is Listed (R128, R146). -/
def barExpired (i : Fin 24) (d : Device) : Device :=
  afterMs (d.entry i).bar (fun d => d.onEntry i fun e => if e.state = .barred then e.toListed else { e with bar := none }) d

/-- The lock hold limit is reached (R147). -/
def lockExpired (d : Device) : Device :=
  match d.meas.lock with
  | some k => afterMs (some k.left) (splitLock k) d
  | none => d

/-- The time a running guard has left. -/
def guardLeft : Guard → Option Nat
  | .running n => some n
  | _ => none

/-- A guard of a record in one of the states given expires (R122). -/
def guardExpired (t : Fin 4) (on : CallState → Bool) (f : CallRec → Device → Device) (d : Device) : Device :=
  match d.call t with
  | some r =>
    if on r.state then
      afterMs (guardLeft r.guard) (fun d =>
        match d.call t with
        | some r' => f r' d
        | none => d) d
    else d
  | none => d

/-- A Collecting record's assembly timer expires (R105). -/
def assemblyTimerExpired (r : Fin 8) (d : Device) : Device :=
  match d.text? r with
  | some x => if x.state = .collecting then afterMs x.timer (assemblyExpired r) d else d
  | none => d

/-- The idle timer expires (R165). -/
def idleExpired (d : Device) : Device := afterMs d.sleep.idle offerSleep d

/-- The wake guard timer expires (R168). -/
def wakeGuardExpired (d : Device) : Device :=
  afterMs d.sleep.guard (fun d =>
    let d1 := d.onSleep fun s => { s with guard := none }
    if d1.sleep.power = .asleep ∧ d1.sleep.reasons ≠ [] then wakeHost d1 else d1) d

/-- The max-sleep timer expires (R168). -/
def maxSleepExpired (d : Device) : Device :=
  afterMs d.sleep.maxSleep (fun d => addReason .timer (d.onSleep fun s => { s with maxSleep := none })) d

/-- The wake-response timer expires (R171). -/
def wakeResponseExpired (d : Device) : Device := afterMs d.sleep.response wakeUnanswered d

/-- The deassertion of a re-pulse ends (R171). -/
def repulseEnded (d : Device) : Device :=
  afterMs d.sleep.repulse (fun d => d.onSleep fun s => { s with repulse := none, wake := true }) d

/-! ### Taking a row -/

/-- A row's effect on the part. While RESET-N is low nothing is received, sent or timed (R23; log entry 21). -/
def live (f : Device → Device) (s : State) : Host.Outcome State Fault Refusal :=
  .next { s with dev := if s.dev.inReset then s.dev else f s.dev }

/-- A status that passed the intake checks, or one that lacks its field (R79). -/
def statusOr {α : Type} (x : Option α) (f : α → Device → Device) (d : Device) : Device :=
  match x with
  | some a => f a d
  | none => malformedStatus d

/-- With no command waiting, one millisecond passes (00, Timers; log entry 1). -/
def idleTick (s : State) : Host.Outcome State Fault Refusal := live (passMs 1) s

end Sys2Proof.Machine
end

