-- ==== Sys2Proof/Machine/ExecCommands.lean ====
section
/-! DEFINITION. The meanings of rows: the commands of the host (chapter 11). Each arrives at the Host Port, which takes it in
or leaves it on the link (R26, R173; log entry 7). -/

namespace Sys2Proof.Machine

/-- IDENTIFY, command 1 (R175). -/
def execIdentify (h : CmdHead) (body : Body Unit) (s : State) : Host.Outcome State Fault Refusal :=
  live (arrive (.identify h body)) s

/-- ENTRY_TABLE_WRITE, command 2 on table 1 (R37, R38). -/
def execEntryTableWrite (h : CmdHead) (body : Body (List EntryWrite)) (walking : Bool) (s : State) : Host.Outcome State Fault Refusal :=
  live (arrive (.entryTableWrite h body walking)) s

/-- DISPATCH_TABLE_WRITE, command 2 on table 2 (R37, R38). -/
def execDispatchTableWrite (h : CmdHead) (body : Body (List RuleWrite)) (walking : Bool) (s : State) : Host.Outcome State Fault Refusal :=
  live (arrive (.dispatchTableWrite h body walking)) s

/-- CLASS_TABLE_WRITE, command 2 on table 3 (R64). -/
def execClassTableWrite (h : CmdHead) (body : Body (List ClassItem)) (s : State) : Host.Outcome State Fault Refusal :=
  live (arrive (.classTableWrite h body)) s

/-- NEIGHBOUR_TABLE_WRITE, command 2 on table 4 (R129). -/
def execNeighbourTableWrite (h : CmdHead) (body : Body (List HostFields)) (s : State) : Host.Outcome State Fault Refusal :=
  live (arrive (.neighbourTableWrite h body)) s

/-- NEIGHBOUR_SETTINGS_WRITE, command 2 on table 5 (R131). -/
def execNeighbourSettingsWrite (h : CmdHead) (body : Body (List Nat)) (s : State) : Host.Outcome State Fault Refusal :=
  live (arrive (.neighbourSettingsWrite h body)) s

/-- PORT_PARAMETERS_WRITE, command 2 on table 6 (R6, R9). -/
def execPortParametersWrite (h : CmdHead) (body : Body (List PortParams)) (s : State) : Host.Outcome State Fault Refusal :=
  live (arrive (.portParametersWrite h body)) s

/-- SLEEP_SETTINGS_WRITE, command 2 on table 7 (R164). -/
def execSleepSettingsWrite (h : CmdHead) (body : Body (List SleepSettings)) (s : State) : Host.Outcome State Fault Refusal :=
  live (arrive (.sleepSettingsWrite h body)) s

/-- CONDITION_SETTINGS_WRITE, command 2 on table 8 (R184). -/
def execConditionSettingsWrite (h : CmdHead) (body : Body (List CondItem)) (s : State) : Host.Outcome State Fault Refusal :=
  live (arrive (.conditionSettingsWrite h body)) s

/-- IDENTITY_TABLE_WRITE, command 2 on table 9 or 10 (R82). -/
def execIdentityTableWrite (l : LineId) (h : CmdHead) (body : Body (List IdentityWrite)) (s : State) : Host.Outcome State Fault Refusal :=
  live (arrive (.identityTableWrite l h body)) s

/-- LINE_PARAMETERS_WRITE, command 2 on table 11 or 12 (R40). -/
def execLineParametersWrite (l : LineId) (h : CmdHead) (body : Body (List ParamValue)) (s : State) : Host.Outcome State Fault Refusal :=
  live (arrive (.lineParametersWrite l h body)) s

/-- TABLE_READ, command 3 (R176). -/
def execTableRead (h : CmdHead) (body : Body Nat) (s : State) : Host.Outcome State Fault Refusal :=
  live (arrive (.tableRead h body)) s

/-- LOCK_READ, command 4 (R147). -/
def execLockRead (h : CmdHead) (body : Body Unit) (s : State) : Host.Outcome State Fault Refusal :=
  live (arrive (.lockRead h body)) s

/-- WRITE_UNLOCK, command 5 (R148). -/
def execWriteUnlock (h : CmdHead) (body : Body HostFields) (s : State) : Host.Outcome State Fault Refusal :=
  live (arrive (.writeUnlock h body)) s

/-- LINE_START, command 6 (R43). -/
def execLineStart (h : CmdHead) (body : Body Unit) (s : State) : Host.Outcome State Fault Refusal :=
  live (arrive (.lineStart h body)) s

/-- LINE_STOP, command 7 (R54). -/
def execLineStop (h : CmdHead) (body : Body Unit) (s : State) : Host.Outcome State Fault Refusal :=
  live (arrive (.lineStop h body)) s

/-- RADIO_BORROW, command 8 (R80). -/
def execRadioBorrow (h : CmdHead) (body : Body (Byte × List Byte)) (s : State) : Host.Outcome State Fault Refusal :=
  live (arrive (.radioBorrow h body)) s

/-- SLEEP_ENTER, command 9 (R166). -/
def execSleepEnter (h : CmdHead) (body : Body Unit) (s : State) : Host.Outcome State Fault Refusal :=
  live (arrive (.sleepEnter h body)) s

/-- SLEEP_EXIT, command 10 (R170). -/
def execSleepExit (h : CmdHead) (body : Body Unit) (s : State) : Host.Outcome State Fault Refusal :=
  live (arrive (.sleepExit h body)) s

/-- STATUS_READ, command 11 (R177). -/
def execStatusRead (h : CmdHead) (body : Body Unit) (s : State) : Host.Outcome State Fault Refusal :=
  live (arrive (.statusRead h body)) s

/-- CONDITIONS_READ, command 12 (R181). -/
def execConditionsRead (h : CmdHead) (body : Body Unit) (s : State) : Host.Outcome State Fault Refusal :=
  live (arrive (.conditionsRead h body)) s

/-- CONDITIONS_CLEAR, command 13 (R183). -/
def execConditionsClear (h : CmdHead) (body : Body Unit) (s : State) : Host.Outcome State Fault Refusal :=
  live (arrive (.conditionsClear h body)) s

/-- FORCE_PAUSE, command 14 (R10). -/
def execForcePause (h : CmdHead) (body : Body Half) (s : State) : Host.Outcome State Fault Refusal :=
  live (arrive (.forcePause h body)) s

/-- A COMMAND that names no command or no table (R174, R176). -/
def execUnknownCommand (h : CmdHead) (why : Unknown) (s : State) : Host.Outcome State Fault Refusal :=
  live (arrive (.unknownCommand h why)) s

end Sys2Proof.Machine
end

