-- ==== Sys2Proof/Machine/ExecPorts.lean ====
section
/-! DEFINITION. The meanings of rows: frames at both ports, the Dispatcher's walk, and transmission (chapters 1 and 2). -/

namespace Sys2Proof.Machine

/-- MODEM_FRAME_INTAKE (R4, R5, R7). -/
def execModemFrameIntake (f : WireFrame) (s : State) : Host.Outcome State Fault Refusal :=
  live (modemFrame f) s

/-- HOST_FRAME_INTAKE (R5, R26). -/
def execHostFrameIntake (f : WireFrame) (s : State) : Host.Outcome State Fault Refusal :=
  live (arrive (.hostFrameIntake f)) s

/-- HOST_PAUSE (R19). -/
def execHostPause (bytes : List Byte) (s : State) : Host.Outcome State Fault Refusal :=
  live (arrive (.hostPause bytes)) s

/-- HOST_LINK_FRAME_ERROR (R5). -/
def execHostLinkFrameError (bytes : List Byte) (s : State) : Host.Outcome State Fault Refusal :=
  live (arrive (.hostLinkFrameError bytes)) s

/-- DISPATCH_WALK (R26 to R36): a frame leaves its input, and what waited on the host link is taken in. -/
def execDispatchWalk (s : State) : Host.Outcome State Fault Refusal :=
  live (fun d => resumeLink (dispatchOnce d)) s

/-- DISPATCH_WRITE_APPLY (R38): the write that waited is applied, and what waited on the host link is taken in. -/
def execDispatchWriteApply (s : State) : Host.Outcome State Fault Refusal :=
  live (fun d => resumeLink (applyWaiting d)) s

/-- MODEM_TRANSMIT_START (R12, R14). -/
def execModemTransmitStart (s : State) : Host.Outcome State Fault Refusal :=
  live modemTransmit s

/-- HOST_TRANSMIT_START (R20). -/
def execHostTransmitStart (s : State) : Host.Outcome State Fault Refusal :=
  live hostTransmit s

/-- HOST_TRANSMIT_END (R20, R165, R166). -/
def execHostTransmitEnd (s : State) : Host.Outcome State Fault Refusal :=
  live hostSent s

end Sys2Proof.Machine
end

