-- ==== Sys2Proof/Machine/ExecRadio.lean ====
section
/-! DEFINITION. The meanings of rows: the radio statuses, the frame boundary, and the expiries counted in boundaries (chapters 3, 4, 5, 8 and 9). -/

namespace Sys2Proof.Machine

/-- READY (R72). -/
def execReady (linkCount : Half) (window : Option Byte) (s : State) : Host.Outcome State Fault Refusal :=
  live (fun d => statusOr window readyStatus (modemAccepted linkCount d)) s

/-- DONE (R74, R75). -/
def execDone (linkCount : Half) (window : Option Byte) (s : State) : Host.Outcome State Fault Refusal :=
  live (fun d => statusOr window doneStatus (modemAccepted linkCount d)) s

/-- SYNC_FOUND (R57, R79). -/
def execSyncFound (linkCount : Half) (cell : Option Cell) (s : State) : Host.Outcome State Fault Refusal :=
  live (fun d => statusOr cell syncFoundStatus (modemAccepted linkCount d)) s

/-- SYNC_LOST (R57, R79). -/
def execSyncLost (linkCount : Half) (cell : Option Cell) (s : State) : Host.Outcome State Fault Refusal :=
  live (fun d => statusOr cell syncLostStatus (modemAccepted linkCount d)) s

/-- LINK_RESTART (R59, R79). -/
def execLinkRestart (linkCount : Half) (s : State) : Host.Outcome State Fault Refusal :=
  live (fun d => linkRestartStatus (modemAccepted linkCount d)) s

/-- FRAME_BOUNDARY (R42). -/
def execFrameBoundary (l : LineId) (s : State) : Host.Outcome State Fault Refusal :=
  live (boundary l) s

/-- OCCASION_END_MISS (R86). -/
def execOccasionEndMiss (l : LineId) (s : State) : Host.Outcome State Fault Refusal :=
  live (occasionEnded l) s

/-- RECENT_PAGE_EXPIRY (R94). -/
def execRecentPageExpiry (l : LineId) (s : State) : Host.Outcome State Fault Refusal :=
  live (recentExpired l) s

/-- RADIO_LINK_EXPIRY (R57). -/
def execRadioLinkExpiry (l : LineId) (s : State) : Host.Outcome State Fault Refusal :=
  live (radioLinkExpired l) s

/-- GRANT_TIMEOUT (R73). -/
def execGrantTimeout (s : State) : Host.Outcome State Fault Refusal :=
  live grantExpired s

/-- WINDOW_OVERRUN (R76). -/
def execWindowOverrun (s : State) : Host.Outcome State Fault Refusal :=
  live overrunReached s

/-- SUSPEND_LIMIT (R74). -/
def execSuspendLimit (s : State) : Host.Outcome State Fault Refusal :=
  live suspendReached s

/-- MEASUREMENT_TIMER_EXPIRY (R134, R135). -/
def execMeasurementTimerExpiry (l : LineId) (s : State) : Host.Outcome State Fault Refusal :=
  live (measurementExpired l) s

/-- DEADLINE_EXPIRY (R156, R157, R159). -/
def execDeadlineExpiry (l : LineId) (s : State) : Host.Outcome State Fault Refusal :=
  live (deadlineExpired l) s

/-- TUNE_EXTENSION (R153). -/
def execTuneExtension (l : LineId) (s : State) : Host.Outcome State Fault Refusal :=
  live (tuneExtended l) s

end Sys2Proof.Machine
end

