-- ==== Sys2Proof/Machine/ExecReset.lean ====
section
/-! DEFINITION. The meanings of rows: the two resets and Warm Reset (R23, R178). -/

namespace Sys2Proof.Machine

/-- COLD_RESET (R23): every table, store and state takes its Cold Reset value, also while RESET-N was low; the queue of commands is the model's own and stays. -/
def execColdReset (s : State) : Host.Outcome State Fault Refusal :=
  .next { s with dev := Device.reset }

/-- RESET_N_LOW (R23). -/
def execResetNLow (s : State) : Host.Outcome State Fault Refusal :=
  live enterReset s

/-- WARM_RESET, command 15 (R178). -/
def execWarmReset (h : CmdHead) (body : Body Unit) (s : State) : Host.Outcome State Fault Refusal :=
  live (arrive (.warmReset h body)) s

end Sys2Proof.Machine
end

