-- ==== Sys2Proof/Machine/ExecTimers.lean ====
section
/-! DEFINITION. The meanings of rows: the expiries of timers in ms and s. -/

namespace Sys2Proof.Machine

/-- HOST_PAUSE_EXPIRY (R19). -/
def execHostPauseExpiry (s : State) : Host.Outcome State Fault Refusal :=
  live hostPauseExpired s

/-- PAUSE_REPEAT_EXPIRY (R8). -/
def execPauseRepeatExpiry (s : State) : Host.Outcome State Fault Refusal :=
  live pauseRepeatExpired s

/-- SEARCH_RETRY_EXPIRY (R49). -/
def execSearchRetryExpiry (l : LineId) (s : State) : Host.Outcome State Fault Refusal :=
  live (searchRetryExpired l) s

/-- PENALTY_EXPIRY (R146). -/
def execPenaltyExpiry (i : Fin 24) (s : State) : Host.Outcome State Fault Refusal :=
  live (penaltyExpired i) s

/-- BAR_EXPIRY (R146). -/
def execBarExpiry (i : Fin 24) (s : State) : Host.Outcome State Fault Refusal :=
  live (barExpired i) s

/-- LOCK_HOLD_EXPIRY (R147). -/
def execLockHoldExpiry (s : State) : Host.Outcome State Fault Refusal :=
  live lockExpired s

/-- OFFER_GUARD_EXPIRY (R122). -/
def execOfferGuardExpiry (t : Fin 4) (s : State) : Host.Outcome State Fault Refusal :=
  live (guardExpired t (fun s => s == .offered) (fun r => guardClears t r .noAnswer)) s

/-- REQUEST_GUARD_EXPIRY (R122). -/
def execRequestGuardExpiry (t : Fin 4) (s : State) : Host.Outcome State Fault Refusal :=
  live (guardExpired t (fun s => s == .requested || s == .alerting) (fun r => guardClears t r .timeout)) s

/-- CLEARING_GUARD_EXPIRY (R122). -/
def execClearingGuardExpiry (t : Fin 4) (s : State) : Host.Outcome State Fault Refusal :=
  live (guardExpired t (fun s => s == .clearing) (clearingExpired t)) s

/-- ASSEMBLY_TIMER_EXPIRY (R105). -/
def execAssemblyTimerExpiry (r : Fin 8) (s : State) : Host.Outcome State Fault Refusal :=
  live (assemblyTimerExpired r) s

/-- IDLE_TIMER_EXPIRY (R165). -/
def execIdleTimerExpiry (s : State) : Host.Outcome State Fault Refusal :=
  live idleExpired s

/-- WAKE_GUARD_EXPIRY (R168). -/
def execWakeGuardExpiry (s : State) : Host.Outcome State Fault Refusal :=
  live wakeGuardExpired s

/-- MAX_SLEEP_EXPIRY (R168). -/
def execMaxSleepExpiry (s : State) : Host.Outcome State Fault Refusal :=
  live maxSleepExpired s

/-- WAKE_RESPONSE_EXPIRY (R171). -/
def execWakeResponseExpiry (s : State) : Host.Outcome State Fault Refusal :=
  live wakeResponseExpired s

/-- WAKE_REPULSE_END (R171). -/
def execWakeRepulseEnd (s : State) : Host.Outcome State Fault Refusal :=
  live repulseEnded s

end Sys2Proof.Machine
end

