-- ==== Sys2Proof/Machine/Dispatch.lean ====
section
/-! DEFINITION. `exec`: each row of the table gets its meaning, one arm per constructor. -/

namespace Sys2Proof.Machine

def exec (i : Instr) (s : State) : Host.Outcome State Fault Refusal :=
  match i with
  | .coldReset => Sys2Proof.Machine.execColdReset s
  | .resetNLow => Sys2Proof.Machine.execResetNLow s
  | .modemFrameIntake f => Sys2Proof.Machine.execModemFrameIntake f s
  | .ready linkCount window => Sys2Proof.Machine.execReady linkCount window s
  | .done linkCount window => Sys2Proof.Machine.execDone linkCount window s
  | .syncFound linkCount cell => Sys2Proof.Machine.execSyncFound linkCount cell s
  | .syncLost linkCount cell => Sys2Proof.Machine.execSyncLost linkCount cell s
  | .linkRestart linkCount => Sys2Proof.Machine.execLinkRestart linkCount s
  | .hostFrameIntake f => Sys2Proof.Machine.execHostFrameIntake f s
  | .hostPause bytes => Sys2Proof.Machine.execHostPause bytes s
  | .hostPauseExpiry => Sys2Proof.Machine.execHostPauseExpiry s
  | .pauseRepeatExpiry => Sys2Proof.Machine.execPauseRepeatExpiry s
  | .dispatchWalk => Sys2Proof.Machine.execDispatchWalk s
  | .dispatchWriteApply => Sys2Proof.Machine.execDispatchWriteApply s
  | .modemTransmitStart => Sys2Proof.Machine.execModemTransmitStart s
  | .hostTransmitStart => Sys2Proof.Machine.execHostTransmitStart s
  | .hostTransmitEnd => Sys2Proof.Machine.execHostTransmitEnd s
  | .frameBoundary l => Sys2Proof.Machine.execFrameBoundary l s
  | .occasionEndMiss l => Sys2Proof.Machine.execOccasionEndMiss l s
  | .recentPageExpiry l => Sys2Proof.Machine.execRecentPageExpiry l s
  | .radioLinkExpiry l => Sys2Proof.Machine.execRadioLinkExpiry l s
  | .searchRetryExpiry l => Sys2Proof.Machine.execSearchRetryExpiry l s
  | .grantTimeout => Sys2Proof.Machine.execGrantTimeout s
  | .windowOverrun => Sys2Proof.Machine.execWindowOverrun s
  | .suspendLimit => Sys2Proof.Machine.execSuspendLimit s
  | .measurementTimerExpiry l => Sys2Proof.Machine.execMeasurementTimerExpiry l s
  | .deadlineExpiry l => Sys2Proof.Machine.execDeadlineExpiry l s
  | .tuneExtension l => Sys2Proof.Machine.execTuneExtension l s
  | .penaltyExpiry idx => Sys2Proof.Machine.execPenaltyExpiry idx s
  | .barExpiry idx => Sys2Proof.Machine.execBarExpiry idx s
  | .lockHoldExpiry => Sys2Proof.Machine.execLockHoldExpiry s
  | .offerGuardExpiry t => Sys2Proof.Machine.execOfferGuardExpiry t s
  | .requestGuardExpiry t => Sys2Proof.Machine.execRequestGuardExpiry t s
  | .clearingGuardExpiry t => Sys2Proof.Machine.execClearingGuardExpiry t s
  | .assemblyTimerExpiry r => Sys2Proof.Machine.execAssemblyTimerExpiry r s
  | .idleTimerExpiry => Sys2Proof.Machine.execIdleTimerExpiry s
  | .wakeGuardExpiry => Sys2Proof.Machine.execWakeGuardExpiry s
  | .maxSleepExpiry => Sys2Proof.Machine.execMaxSleepExpiry s
  | .wakeResponseExpiry => Sys2Proof.Machine.execWakeResponseExpiry s
  | .identify h body => Sys2Proof.Machine.execIdentify h body s
  | .entryTableWrite h body walking => Sys2Proof.Machine.execEntryTableWrite h body walking s
  | .dispatchTableWrite h body walking => Sys2Proof.Machine.execDispatchTableWrite h body walking s
  | .classTableWrite h body => Sys2Proof.Machine.execClassTableWrite h body s
  | .neighbourTableWrite h body => Sys2Proof.Machine.execNeighbourTableWrite h body s
  | .neighbourSettingsWrite h body => Sys2Proof.Machine.execNeighbourSettingsWrite h body s
  | .portParametersWrite h body => Sys2Proof.Machine.execPortParametersWrite h body s
  | .sleepSettingsWrite h body => Sys2Proof.Machine.execSleepSettingsWrite h body s
  | .conditionSettingsWrite h body => Sys2Proof.Machine.execConditionSettingsWrite h body s
  | .identityTableWrite l h body => Sys2Proof.Machine.execIdentityTableWrite l h body s
  | .lineParametersWrite l h body => Sys2Proof.Machine.execLineParametersWrite l h body s
  | .tableRead h body => Sys2Proof.Machine.execTableRead h body s
  | .lockRead h body => Sys2Proof.Machine.execLockRead h body s
  | .writeUnlock h body => Sys2Proof.Machine.execWriteUnlock h body s
  | .lineStart h body => Sys2Proof.Machine.execLineStart h body s
  | .lineStop h body => Sys2Proof.Machine.execLineStop h body s
  | .radioBorrow h body => Sys2Proof.Machine.execRadioBorrow h body s
  | .sleepEnter h body => Sys2Proof.Machine.execSleepEnter h body s
  | .sleepExit h body => Sys2Proof.Machine.execSleepExit h body s
  | .statusRead h body => Sys2Proof.Machine.execStatusRead h body s
  | .conditionsRead h body => Sys2Proof.Machine.execConditionsRead h body s
  | .conditionsClear h body => Sys2Proof.Machine.execConditionsClear h body s
  | .forcePause h body => Sys2Proof.Machine.execForcePause h body s
  | .warmReset h body => Sys2Proof.Machine.execWarmReset h body s
  | .unknownCommand h why => Sys2Proof.Machine.execUnknownCommand h why s
  | .hostLinkFrameError bytes => Sys2Proof.Machine.execHostLinkFrameError bytes s
  | .wakeRepulseEnd => Sys2Proof.Machine.execWakeRepulseEnd s

end Sys2Proof.Machine
end

