-- ==== Sys2Proof/Safety.lean ====
section
/-! DEFINITION. What counts as a safe run of the HW2240, in the terms that claims use: the stores within their capacities, the
settings that only writes and Cold Reset change, the promises that the manual's prose makes of every state, and the conditions
under which a frame is taken in at once. -/

namespace Sys2Proof.Machine

/-! ### Capacities (R7, R11, R16, R21, R46, R53, R94) -/

/-- Every store of a line is within its capacity: the Uplink Hold (R53), the found list (R46) and the Recent Page List
(R94). -/
def Device.lineBounded (d : Device) (l : LineId) : Prop :=
  (d.line l).hold.length ≤ 4 ∧ (d.line l).found.length ≤ 8 ∧ (d.page l).recent.length ≤ 4

/-- Every store of the part is within its capacity. -/
structure Device.Bounded (d : Device) : Prop where
  /-- R7. -/
  intake : d.modem.intake.length ≤ 32
  /-- R11. -/
  voiceLane : d.modem.voiceLane.length ≤ 4
  orderLane : d.modem.orderLane.length ≤ 4
  deviceLane : d.modem.deviceLane.length ≤ 8
  hostLane : d.modem.hostLane.length ≤ 8
  /-- R16, R17. -/
  queue : d.host.queue.length ≤ 48
  /-- R21. -/
  voice : d.host.voice.length ≤ 2
  /-- R46, R53, R94. -/
  line : ∀ l, d.lineBounded l

/-! ### Lines, their serving cells and their moves (R41, R51, R130, R150) -/

/-- The lines, their serving entries and their move records agree. -/
structure Device.LinesFit (d : Device) : Prop where
  /-- R41: a serving entry in Camped, Connected and Moving, and in no other state. -/
  serving : ∀ l, (d.line l).serving.isSome = hasSet (d.lineState l)
  /-- R41, R130: an entry is marked as serving for a line exactly where the line has it as its serving entry. -/
  marks : ∀ l i, (d.entry i).servingFor.get l = ((d.line l).serving == some i)
  /-- R41, R130: a serving entry is one that its line owns, and is neither Free nor Barred. -/
  owned : ∀ l i, (d.line l).serving = some i → (d.entry i).own.get l = true ∧ (d.entry i).state.live = true
  /-- R51: at most one line is Connected or Moving. -/
  single : ¬ (d.carriesCall .a = true ∧ d.carriesCall .b = true)
  /-- R150: the line of a handover is Moving, and that of a reselection is Camped; its serving entry is the record's old one. -/
  move : ∀ l m, d.moveRec l = some m →
    d.lineState l = (if m.kind = .handover then .moving else .camped) ∧ (d.line l).serving = some m.oldEntry
  /-- R150, R152: a Moving line has a move record. -/
  moving : ∀ l, d.lineState l = .moving → (d.moveRec l).isSome = true

/-! ### Calls (R109, R111, R112) -/

/-- The Call Table agrees with the states of the lines. -/
structure Device.CallsFit (d : Device) : Prop where
  /-- R111: a record that is not Free belongs to a line in Connected, Moving or Stopping. -/
  line : ∀ k r, d.call k = some r → d.carriesCall r.line = true ∨ d.lineState r.line = .stopping
  /-- R111: a Connected or Moving line has a record. -/
  held : ∀ l, d.carriesCall l = true → ∃ k r, d.call k = some r ∧ r.line = l
  /-- R112: at most one record is Active. -/
  active : ∀ j k r u, d.call j = some r → d.call k = some u → r.state = .active → u.state = .active → j = k
  /-- R109: no two records have the same line and reference. -/
  pairs : ∀ j k r u, d.call j = some r → d.call k = some u → r.line = u.line → r.ref = u.ref → j = k

/-! ### The Part Pool (R96, R97) -/

/-- The slots of the Part Pool that an Assembly Record holds. -/
def Device.heldSlots (d : Device) (r : Fin 8) : List (Nat × Fin 48) := (d.text? r).elim [] TextRec.parts

/-- The free slots of the Part Pool. -/
def Device.freeSlots (d : Device) : List (Fin 48) := (indexes 48).filter fun i => (d.text.pool.get i).isNone

/-- The Part Pool and the Assembly Records agree. -/
structure Device.PoolFits (d : Device) : Prop where
  /-- A slot is held by a record exactly where it stands in the record's slot list. -/
  owned : ∀ r i, (∃ n, (n, i) ∈ d.heldSlots r) ↔ ∃ p, d.text.pool.get i = some p ∧ p.owner = r
  /-- R96, R97: a record holds each part number once, in part-number order, and each slot once. -/
  once : ∀ r, (d.heldSlots r).Pairwise fun p q => p.1 < q.1 ∧ p.2 ≠ q.2
  /-- R96: the slots held by records and the free slots always number 48. -/
  total : ((indexes 8).map fun r => (d.heldSlots r).length).sum + d.freeSlots.length = 48
  /-- R97: the assembly list holds the records that are not Free, each once. -/
  listed : d.text.order.Nodup ∧ ∀ r, r ∈ d.text.order ↔ (d.text? r).isSome = true
  /-- R97: no two records have the same line and sender reference. -/
  pairs : ∀ r u x y, d.text? r = some x → d.text? u = some y → x.line = y.line → x.sender = y.sender → r = u

/-! ### The Neighbour Table (R127, R128) -/

/-- The cells of the Neighbour Table are unique. -/
structure Device.CellsFit (d : Device) : Prop where
  /-- R127: an entry is Free exactly where no line owns it. -/
  owners : ∀ i, (d.entry i).state = .free ↔ (d.entry i).unowned = true
  /-- R128: no cell stands in two entries that are not Free. -/
  unique : ∀ i j, (d.entry i).state ≠ .free → (d.entry j).state ≠ .free → (d.entry i).cell = (d.entry j).cell → i = j

/-! ### Settings (R6, R24, R25, R40, R64, R82, R131, R164, R184) -/

/-- What the host configures. The wake enables are left out: an exit from sleep may clear them (R169). -/
structure Settings where
  entries : Tab EntryRec 6
  rules : Tab Rule 64
  ports : PortParams
  params : Pair LineParams
  classes : Tab ClassRec 7
  mode : ArbMode
  code : Nat
  identities : Pair (Tab Identity 4)
  lockHold : Nat
  sleep : SleepSettings
  conditions : Tab (Bool × FaultAction) 15
  deriving DecidableEq, Repr

/-- The settings in force. -/
def Device.settings (d : Device) : Settings :=
  { entries := d.disp.entries, rules := d.disp.rules, ports := d.modem.params
    params := ⟨d.lines.a.params, d.lines.b.params⟩
    classes := d.arb.classes, mode := d.arb.mode, code := d.arb.code
    identities := ⟨d.paging.a.identities, d.paging.b.identities⟩
    lockHold := d.meas.lockHold
    sleep := { d.sleep.settings with enables := ⟨true, true, true, true, true, true⟩ }
    conditions := d.conds.map fun r => (r.mask, r.action) }

/-- A row that may change the settings: Cold Reset, a Table Write of tables 1 to 3 and 5 to 12, the application of a write
that waited, and a walk, which lets the frames that waited on the host link be taken in. -/
def writesSettings : Instr → Bool
  | .coldReset | .entryTableWrite .. | .dispatchTableWrite .. | .classTableWrite .. | .neighbourSettingsWrite ..
  | .portParametersWrite .. | .sleepSettingsWrite .. | .conditionSettingsWrite .. | .identityTableWrite ..
  | .lineParametersWrite .. | .dispatchWriteApply | .dispatchWalk => true
  | _ => false

/-! ### The parameters of a line (R40, R131, R153, R176) -/

/-- The 27 parameters of a line in the order in which R176 numbers them. -/
def LineParams.listed (p : LineParams) : List ParamValue :=
  [.num p.requestedCycle, .num p.listenWindow, .num p.listenLead, .num p.accessWindow, .num p.searchWindow,
   .num p.searchInterval, .num p.radioLinkTimeout, .num p.offerGuard, .num p.requestGuard, .num p.assemblyTimeout]
  ++ [.mode p.idleMode, .num p.intervalM, .num p.mixedThreshold, .num p.intervalG, .num p.cellsW, .num p.measureWindow,
   .num p.coeffK, .num p.missLimit, .num p.hys, .num p.ttt, .num p.reportInterval, .num p.reportAmount, .num p.tresel,
   .num p.penaltyP, .num p.penaltyTime, .num p.barTime, .num p.reselectDeadline]

/-- The range of each parameter: items 0 to 9 by R40, 10 to 25 by R131, and 26 by R153. -/
def paramInRange (item : Nat) (v : ParamValue) : Prop :=
  match item, v with
  | 0, .num n => n = 32 ∨ n = 64 ∨ n = 128 ∨ n = 256
  | 1, .num n => 1 ≤ n ∧ n ≤ 4
  | 2, .num n => 1 ≤ n ∧ n ≤ 8
  | 3, .num n => n ≤ 255
  | 4, .num n => n ≤ 255
  | 5, .num n => 1 ≤ n ∧ n ≤ 60
  | 6, .num n => 50 ≤ n ∧ n ≤ 1000
  | 7, .num n => 5 ≤ n ∧ n ≤ 60
  | 8, .num n => 5 ≤ n ∧ n ≤ 60
  | 9, .num n => 5 ≤ n ∧ n ≤ 900
  | 10, .mode _ => True
  | 11, .num n => 4 ≤ n ∧ n ≤ 255
  | 12, .num n => 64 ≤ n ∧ n ≤ 256
  | 13, .num n => 2 ≤ n ∧ n ≤ 32
  | 14, .num n => 1 ≤ n ∧ n ≤ 8
  | 15, .num n => n ≤ 255
  | 16, .num n => n ≤ 6
  | 17, .num n => 1 ≤ n ∧ n ≤ 7
  | 18, .num n => n ≤ 60
  | 19, .num n => 1 ≤ n ∧ n ≤ 15
  | 20, .num n => 1 ≤ n ∧ n ≤ 60
  | 21, .num n => 1 ≤ n ∧ n ≤ 8
  | 22, .num n => 1 ≤ n ∧ n ≤ 15
  | 23, .num n => n ≤ 60
  | 24, .num n => n ≤ 60
  | 25, .num n => 1 ≤ n ∧ n ≤ 255
  | 26, .num n => 20 ≤ n ∧ n ≤ 400
  | _, _ => False

/-! ### Taking in a frame of the host at once (R26, R173) -/

/-- The part runs, and its Host Port takes in the next frame from the host at once: its input place and its command place
are empty, and no frame waits on the link. -/
structure Listening (d : Device) : Prop where
  running : d.inReset = false
  input : d.host.input = none
  write : d.disp.write = none
  link : d.host.link = []

/-! ### What a walk walks (R26, R27) -/

/-- The next DISPATCH_WALK walks a frame of a direction under a host power, from a part that has taken the frame: the walk in
progress, under the power of its start, or else, with no write that waits, the frame that the Dispatcher takes now (R26, R27). -/
def WalksNext (d : Device) (dir : Direct) (p : Power) (f : LinkFrame) (x : Device) : Prop :=
  dir = .down ∧ d.disp.walking = some ⟨f, p⟩ ∧ x = { d with disp := { d.disp with walking := none } }
  ∨ d.disp.walking = none ∧ d.disp.write = none ∧ takeFrame d = some (dir, f, x) ∧ p = d.sleep.power

/-! ### What an effect leaves unchanged -/

/-- Every block but the host-bound side (the Host Port, the Sleep Controller and the conditions) is unchanged. -/
structure SameBlocks (d t : Device) : Prop where
  inReset : t.inReset = d.inReset
  lastReset : t.lastReset = d.lastReset
  modem : t.modem = d.modem
  disp : t.disp = d.disp
  lines : t.lines = d.lines
  arb : t.arb = d.arb
  paging : t.paging = d.paging
  text : t.text = d.text
  calls : t.calls = d.calls
  meas : t.meas = d.meas
  move : t.move = d.move

/-- The Host Port is unchanged but for its queue, its sequence number and its last Link Count. -/
structure SamePort (d t : Device) : Prop where
  voice : t.host.voice = d.host.voice
  pauseTimer : t.host.pauseTimer = d.host.pauseTimer
  sending : t.host.sending = d.host.sending
  outCount : t.host.outCount = d.host.outCount
  lastError : t.host.lastError = d.host.lastError
  input : t.host.input = d.host.input
  link : t.host.link = d.host.link

/-- Beside what `d` says, only a REPLY has had an effect: every block, every condition and the rest of the Host Port are as they
were, and the frames of the Host-bound Queue stand in it in the same order. -/
structure OnlyReplied (d t : Device) : Prop where
  blocks : SameBlocks d t
  port : SamePort d t
  conds : t.conds = d.conds
  queue : d.host.queue.Sublist t.host.queue

/-- What the arrival of a command makes of the Sleep Controller: an Awake or Offered host stays awake, and a sleep ends with its
record; the settings stay, but for the enables that an exit may clear (R165, R169). The idle timer, and an offer that it may
bring, are left to R165. -/
structure Arrived (d t : Device) : Prop where
  power : t.sleep.power = .awake ∨ t.sleep.power = .offered
  /-- The host was awake: nothing else changes but a pending entry. -/
  stay : d.sleep.power = .awake ∨ d.sleep.power = .offered →
    t.sleep = { d.sleep with power := t.sleep.power, idle := t.sleep.idle
                             entry := if d.sleep.power = .awake then .clear else d.sleep.entry }
  /-- The host slept: an exit. -/
  ends : d.sleep.power = .asleep ∨ d.sleep.power = .waking →
    t.sleep = { d.sleep with
      power := t.sleep.power, idle := t.sleep.idle, wake := false, repulse := none, guard := none, maxSleep := none
      response := none, reasons := [], repulses := 0
      lastSleep := some ⟨d.sleep.reasons, d.sleep.repulses, min d.sleep.asleepMs 65535000⟩
      settings := if d.sleep.settings.exitClears then
          { d.sleep.settings with enables := ⟨false, false, false, false, false, false⟩ }
        else d.sleep.settings }

/-- Beside what `d` says, only the arrival of a command and its REPLY have had an effect. -/
structure OnlyAnswered (d t : Device) : Prop extends OnlyReplied d t where
  sleep : Arrived d t

/-- A row takes a next state, in which the waiting commands are as they were and the part satisfies a claim. -/
def Answers (i : Instr) (s : State) (P : Device → Prop) : Prop :=
  ∃ t : Device, exec i s = .next { dev := t, pending := s.pending } ∧ P t

/-- A REPLY to a command stands in the Host-bound Queue, whatever the Line field of its header, which no rule gives (log entry
59). -/
def Replied (h : CmdHead) (command : Byte) (o : ReplyOutcome) (t : Device) : Prop :=
  ∃ line, { replyFrame h.tag command o with line := line } ∈ t.host.queue

/-- A command that is taken at once, with no lock to split, and whose REPLY has room in the Host-bound Queue, also beside
a SLEEP-OFFER that its arrival may bring (R147, R165, R173). -/
structure Commandable (d : Device) : Prop extends Listening d where
  unlocked : d.meas.lock = none
  room : d.host.queue.length + 2 ≤ 48

/-- A row that comes from the host's link. -/
def fromHost : Instr → Bool
  | .hostFrameIntake _ | .hostPause _ | .hostLinkFrameError _ | .identify .. | .entryTableWrite .. | .dispatchTableWrite ..
  | .classTableWrite .. | .neighbourTableWrite .. | .neighbourSettingsWrite .. | .portParametersWrite ..
  | .sleepSettingsWrite .. | .conditionSettingsWrite .. | .identityTableWrite .. | .lineParametersWrite .. | .tableRead ..
  | .lockRead .. | .writeUnlock .. | .lineStart .. | .lineStop .. | .radioBorrow .. | .sleepEnter .. | .sleepExit ..
  | .statusRead .. | .conditionsRead .. | .conditionsClear .. | .forcePause .. | .warmReset .. | .unknownCommand .. => true
  | _ => false

/-- The items of a table after a write of items from an index. -/
def itemAfter {α : Type} (first : Nat) (xs : List α) (i : Nat) (old : α) : α :=
  if first ≤ i then xs.getD (i - first) old else old

/-- No slot waits for the radio. -/
def NoneWaiting (d : Device) : Prop := ∀ i : Fin 13, (d.slot i).want = .idle

end Sys2Proof.Machine
end

