-- ==== Sys2Proof/WellFormed.lean ====
section
/-! DEFINITION. The operands that a row of the table may carry: what its name says of the frame or command that it is, and
the field ranges that the manual gives the wire. -/

namespace Sys2Proof

open Sys2Proof.Machine (intakeError headerOf)

/-- A radio cell: a channel 0..4095 and a cell code 0..511 (chapter 3). -/
def Cell.wf (c : Cell) : Bool := decide (c.channel ≤ 4095 ∧ c.code ≤ 511)

/-- An absent field, or one that passes. -/
def optWf {α : Type} (p : α → Bool) : Option α → Bool
  | none => true
  | some x => p x

/-- The paging cycles that a CELL-INFO may carry (chapter 3). -/
def cycleWf (n : Nat) : Bool := n == 32 || n == 64 || n == 128 || n == 256

/-- Qhyst, 0..24 q (chapter 3). -/
def qhystWf (n : Nat) : Bool := decide (n ≤ 24)

/-- The field ranges of a payload that no rule of a unit tests again. -/
def Fields.wf (f : Fields) : Bool := optWf Cell.wf f.cell && optWf cycleWf f.cycle && optWf qhystWf f.qhyst

/-- A SIGNAL or VOICE frame from the host that passes the intake checks (R5, R26). -/
def hostInputWf (f : WireFrame) : Bool :=
  intakeError .host f.bytes == none && ((headerOf f.bytes).kind == some .signal || (headerOf f.bytes).kind == some .voice)

/-- A PAUSE frame from the host that passes the intake checks (R5, R19). -/
def hostPauseWf (bytes : List Byte) : Bool :=
  intakeError .host bytes == none && (headerOf bytes).kind == some .pause

/-- A frame from the host that fails an intake check (R5). -/
def hostErrorWf (bytes : List Byte) : Bool := intakeError .host bytes != none

/-- A Table Write names its table in Target (R176). -/
def targetWf (h : CmdHead) (n : Nat) : Bool := h.target.toNat == n

/-- What an unknown command may be: a short head, a command number 0 or above 15, or a table number that is 0 or above 12,
which stands in Target (R174, R176). -/
def unknownWf (h : CmdHead) : Unknown → Bool
  | .shortHead => true
  | .number n => n.toNat == 0 || decide (15 < n.toNat)
  | .table t => h.target == t && (t.toNat == 0 || decide (12 < t.toNat))

/-- The numbers of a line's identity table and parameter table (R176). -/
def identityTarget : LineId → Nat
  | .a => 9
  | .b => 10
def parameterTarget : LineId → Nat
  | .a => 11
  | .b => 12

/-- A row with operands that it may carry. -/
def Instr.wf : Instr → Bool
  | .modemFrameIntake f => f.fields.wf
  | .hostFrameIntake f => hostInputWf f && f.fields.wf
  | .hostPause bytes => hostPauseWf bytes
  | .hostLinkFrameError bytes => hostErrorWf bytes
  | .syncFound _ c => optWf Cell.wf c
  | .syncLost _ c => optWf Cell.wf c
  | .entryTableWrite h _ _ => targetWf h 1
  | .dispatchTableWrite h _ _ => targetWf h 2
  | .classTableWrite h _ => targetWf h 3
  | .neighbourTableWrite h _ => targetWf h 4
  | .neighbourSettingsWrite h _ => targetWf h 5
  | .portParametersWrite h _ => targetWf h 6
  | .sleepSettingsWrite h _ => targetWf h 7
  | .conditionSettingsWrite h _ => targetWf h 8
  | .identityTableWrite l h _ => targetWf h (identityTarget l)
  | .lineParametersWrite l h _ => targetWf h (parameterTarget l)
  | .unknownCommand h why => unknownWf h why
  | .coldReset => true
  | .resetNLow => true
  | .ready _ _ => true
  | .done _ _ => true
  | .linkRestart _ => true
  | .hostPauseExpiry => true
  | .pauseRepeatExpiry => true
  | .dispatchWalk => true
  | .dispatchWriteApply => true
  | .modemTransmitStart => true
  | .hostTransmitStart => true
  | .hostTransmitEnd => true
  | .frameBoundary _ => true
  | .occasionEndMiss _ => true
  | .recentPageExpiry _ => true
  | .radioLinkExpiry _ => true
  | .searchRetryExpiry _ => true
  | .grantTimeout => true
  | .windowOverrun => true
  | .suspendLimit => true
  | .measurementTimerExpiry _ => true
  | .deadlineExpiry _ => true
  | .tuneExtension _ => true
  | .penaltyExpiry _ => true
  | .barExpiry _ => true
  | .lockHoldExpiry => true
  | .offerGuardExpiry _ => true
  | .requestGuardExpiry _ => true
  | .clearingGuardExpiry _ => true
  | .assemblyTimerExpiry _ => true
  | .idleTimerExpiry => true
  | .wakeGuardExpiry => true
  | .maxSleepExpiry => true
  | .wakeResponseExpiry => true
  | .identify _ _ => true
  | .tableRead _ _ => true
  | .lockRead _ _ => true
  | .writeUnlock _ _ => true
  | .lineStart _ _ => true
  | .lineStop _ _ => true
  | .radioBorrow _ _ => true
  | .sleepEnter _ _ => true
  | .sleepExit _ _ => true
  | .statusRead _ _ => true
  | .conditionsRead _ _ => true
  | .conditionsClear _ _ => true
  | .forcePause _ _ => true
  | .warmReset _ _ => true
  | .wakeRepulseEnd => true

end Sys2Proof
end

