-- ==== Sys2Proof/Certificates/Slice0/Obligations.lean ====
section
/-! DEFINITION. What is claimed of the model, for the provers. `Answers i s P` says that `exec i s` is a next state whose
part satisfies P, with the waiting commands as they were; each statement of a row's own effect has it as its conclusion. -/

open Sys2Proof
open Sys2Proof.Machine

/-! ### The machine and its resets -/

/-- A step takes the command at the front of the queue and is its meaning on the rest. With no command waiting, 1 ms passes (log
entry 1): every running timer in ms or s has 1 ms less left, and one at 0 stays due (log entry 2); a frozen or stopped guard
stays; a text's age and the time asleep grow by 1 ms; no expiry acts, and everything else is as it was. While RESET-N is low
nothing changes at all: that the timers, too, stand still then is log entry 21. -/
def Obligations.StepRunsFrontCommand : Prop :=
  (∀ (c : Instr) (rest : List Instr) (d : Device), step ⟨d, c :: rest⟩ = exec c ⟨d, rest⟩)
  ∧ (∀ d : Device, d.inReset = true → step ⟨d, []⟩ = .next ⟨d, []⟩)
  ∧ ∀ d : Device, d.inReset = false →
    let less (n : Option Nat) : Option Nat := n.map fun k => k - 1
    ∃ t : Device, step ⟨d, []⟩ = .next ⟨t, []⟩
      ∧ t = { d with
          modem := { d.modem with pausing := less d.modem.pausing }
          host := { d.host with pauseTimer := less d.host.pauseTimer }
          lines := t.lines
          arb := { d.arb with holder := d.arb.holder.map fun h => { h with grantTimer := less h.grantTimer } }
          text := { d.text with recs := t.text.recs }
          calls := { d.calls with recs := t.calls.recs }
          meas := { d.meas with
            entries := t.meas.entries, lock := d.meas.lock.map fun k => { k with left := k.left - 1 } }
          sleep := { d.sleep with
            idle := less d.sleep.idle, guard := less d.sleep.guard, maxSleep := less d.sleep.maxSleep
            response := less d.sleep.response, repulse := less d.sleep.repulse
            asleepMs := if d.sleep.power = .asleep ∨ d.sleep.power = .waking then d.sleep.asleepMs + 1
              else d.sleep.asleepMs } }
      ∧ (∀ l, t.line l = { d.line l with retry := less (d.line l).retry })
      ∧ (∀ r, t.text? r = (d.text? r).map fun x => { x with ageMs := x.ageMs + 1, timer := less x.timer })
      ∧ (∀ k, t.call k = (d.call k).map fun r =>
          { r with guard := match r.guard with
              | .running n => .running (n - 1)
              | g => g })
      ∧ ∀ i, t.entry i = { d.entry i with penalty := less (d.entry i).penalty, bar := less (d.entry i).bar }

/-- No row stops the machine, and none touches the commands that wait. RESET_N_LOW: both links fall silent and WAKE is deasserted;
from then on nothing but COLD_RESET has an effect (R23; that no other row acts is log entry 21). -/
def Obligations.RowsAnswerNextAndResetHolds : Prop :=
  (∀ (i : Instr) (s : State), Answers i s fun _ => True)
  ∧ (∀ (d : Device) (q : List Instr), d.inReset = false →
    Answers .resetNLow ⟨d, q⟩ fun t =>
      t.inReset = true ∧ t.modem.sent = none ∧ t.host.sending = none ∧ t.sleep.wake = false
      ∧ t.host.queue = d.host.queue ∧ t.disp = d.disp ∧ t.lines = d.lines ∧ t.arb = d.arb ∧ t.paging = d.paging
      ∧ t.text = d.text ∧ t.calls = d.calls ∧ t.meas = d.meas ∧ t.move = d.move ∧ t.conds = d.conds)
  ∧ ∀ (i : Instr) (s : State), s.dev.inReset = true → i ≠ .coldReset → exec i s = .next s

/-- COLD_RESET: every block takes the values of its chapter: the ports and their counts (R3, R6 to R22), the dispatch tables
(R24 to R30), the lines with their parameters (R39 to R42, R131, R153), the arbiter with the Class Table (R63, R64), paging
(R82, R83, R94, R95), texts (R96, R97, R108), calls (R109, R126), measurement (R127, R131, R133, R142, R149), moves (R150,
R163), the Sleep Controller with the idle timer that runs at the default delay (R164, R172), and the conditions (R179, R182).
That no
primary identity stands then is log entry 53. The values that log entry 43 gives fields of the model's own have no clause. -/
def Obligations.ColdResetValues : Prop :=
  ∀ s : State, Answers .coldReset s fun t =>
    (t.inReset = false ∧ t.lastReset = .cold)
    ∧ (t.modem.params = ⟨24, 8, 20⟩ ∧ t.modem.intake = [] ∧ t.modem.pausing = none ∧ t.modem.voiceLane = []
      ∧ t.modem.orderLane = [] ∧ t.modem.deviceLane = [] ∧ t.modem.hostLane = [] ∧ t.modem.outCount = 0
      ∧ t.modem.lastCount = none ∧ t.modem.lastError = none)
    ∧ (t.host.queue = [] ∧ t.host.seq = 0 ∧ t.host.voice = [] ∧ t.host.pauseTimer = none ∧ t.host.sending = none
      ∧ t.host.input = none ∧ t.host.outCount = 0 ∧ t.host.lastCount = none ∧ t.host.lastError = none)
    ∧ ((∀ i, t.disp.rules.get i = ⟨false, .any, .any, .any, .any, .drop, 0, none, .normal⟩)
      ∧ t.disp.entries.toList
        = [⟨none, .handle⟩, ⟨none, .both⟩, ⟨none, .handle⟩, ⟨none, .handle⟩, ⟨none, .track⟩, ⟨none, .track⟩]
      ∧ t.disp.lastTurn = .host ∧ t.disp.overflow = none ∧ t.disp.write = none ∧ t.disp.walking = none)
    ∧ (∀ l, (t.line l).state = .off ∧ (t.line l).serving = none ∧ (t.line l).servingBarred = false
        ∧ (t.line l).cycle = none ∧ (t.line l).qhyst = none ∧ (t.line l).campedRounds = 0 ∧ (t.line l).searchPos = 23
        ∧ (t.line l).found = [] ∧ (t.line l).noServiceSent = false ∧ (t.line l).retry = none
        ∧ (t.line l).radioLink = .stopped ∧ (t.line l).deferredStop = false ∧ (t.line l).lossCause = none
        ∧ (t.line l).overrides = none ∧ (t.line l).frame = 0 ∧ (t.line l).hold = []
        ∧ (t.line l).params = ⟨256, 2, 2, 20, 50, 10, 200, 20, 30, 120, .mixed, 32, 128, 10, 4, 4, 2, 3, 12, 2, 4, 4, 3, 20,
            10, 30, 100⟩)
    ∧ ((∀ i, slotState t i = .idle ∧ (t.slot i).repeated = false ∧ (t.slot i).served = false) ∧ t.arb.nextWindow = 0
      ∧ t.arb.pointer = 12 ∧ t.arb.mode = .fixed ∧ t.arb.code = 4 ∧ t.arb.borrow = none
      ∧ t.arb.classes.toList
        = [⟨3, .whenDone, false⟩, ⟨1, .onRequest, false⟩, ⟨2, .whenDone, true⟩, ⟨2, .whenDone, false⟩,
           ⟨1, .whenDone, true⟩, ⟨0, .whenDone, false⟩, ⟨0, .whenDone, false⟩])
    ∧ (∀ l, (∀ i, (t.page l).identities.get i = ⟨0, .permanent, false⟩) ∧ (t.page l).state = .off
        ∧ (t.page l).primary = none ∧ (t.page l).watch = none ∧ (t.page l).recent = []
        ∧ (t.page l).counts = ⟨0, 0, 0, 0, 0, 0⟩)
    ∧ ((∀ i, t.text.pool.get i = none) ∧ (∀ r, t.text? r = none) ∧ t.text.order = []
      ∧ ∀ l, t.text.counts.get l = ⟨0, 0, 0, 0, 0, 0, 0, 0, 0, 0⟩)
    ∧ ((∀ k, t.call k = none) ∧ ∀ l, t.calls.counts.get l = ⟨0, 0, 0, 0, 0, 0, 0, 0, 0, 0, 0, 0, 0⟩)
    ∧ ((∀ i, (t.entry i).state = .free ∧ (t.entry i).cell = ⟨0, 0⟩ ∧ (t.entry i).own = ⟨false, false⟩
          ∧ (t.entry i).ocn = ⟨0, 0⟩ ∧ (t.entry i).qoff = 0 ∧ (t.entry i).inIdle = true ∧ (t.entry i).inCall = true
          ∧ (t.entry i).servingFor = ⟨false, false⟩ ∧ (t.entry i).filter = none ∧ (t.entry i).level = none
          ∧ (t.entry i).quality = none ∧ (t.entry i).misses = 0 ∧ (t.entry i).lastFrame = none
          ∧ (t.entry i).penalty = none ∧ (t.entry i).bar = none ∧ (t.entry i).trig = ⟨⟨0, false, 0⟩, ⟨0, false, 0⟩⟩)
      ∧ t.meas.lock = none ∧ t.meas.lockHold = 50
      ∧ ∀ l, (t.measLine l).round = none ∧ (t.measLine l).pos = 23 ∧ (t.measLine l).timer = .stopped
        ∧ (t.measLine l).reportsSent = 0 ∧ (t.measLine l).roundsSince = 0
        ∧ (t.measLine l).counts = ⟨0, 0, 0, 0, 0, 0, 0, 0⟩)
    ∧ (∀ l, t.move.get l = ⟨none, ⟨0, 0, 0, 0, 0, 0, 0, 0, 0, 0, 0, 0⟩⟩)
    ∧ (t.sleep.power = .awake ∧ t.sleep.entry = .clear ∧ t.sleep.idle = some 2000 ∧ t.sleep.guard = none
      ∧ t.sleep.maxSleep = none ∧ t.sleep.response = none ∧ t.sleep.repulse = none ∧ t.sleep.repulses = 0
      ∧ t.sleep.reasons = [] ∧ t.sleep.lastSleep = none ∧ t.sleep.wake = false
      ∧ t.sleep.settings = ⟨2000, 0, 0, 200, 40, ⟨true, true, true, true, true, true⟩, false⟩)
    ∧ ∀ c, t.cond c = ⟨false, 0, none, false, if c = .f4 then .search else .report⟩

/-- WARM_RESET: the settings, the next window number and each entry's host fields are kept, and every other store, record, timer
and count of every block is emptied at one moment; where the Modem Port was Pausing a PAUSE 0, and for a held window a CANCEL, are
placed after the lanes are emptied, and the REPLY Done is the one frame of the Host-bound Queue (R178, and R3, R15, R22, R26, R30,
R61, R81, R95, R108, R126, R149, R150, R172, R179). A frame whose transmission has begun is sent whole. A walk in progress ends
first, under the host power of its start (R27, R38; log entry 6): the entries and the window are those that it leaves. The values
of the fields of the model's own, with the list of frames on the host link and the slots' and lines' marks, are log entry 43; that
no SLEEP-OFFER joins the REPLY with an idle delay of 0 is log entry 41; that no primary identity stands then is log entry 53; the
Line field 0 of the REPLY is log entry 59, and that of the PAUSE log entry 60. -/
def Obligations.WarmResetKeepsSettings : Prop :=
  ∀ (d : Device) (q : List Instr) (h : CmdHead), Listening d → h.target = 0 → h.index = 0 →
    let e : Device := match d.disp.walking with
      | some w => walkFrame .down w.power w.frame
          (hostAccepted h.linkCount { d with disp := { d.disp with walking := none } })
      | none => d
    Answers (.warmReset h (.fits ())) ⟨d, q⟩ fun t =>
      (t.inReset = false ∧ t.lastReset = .warm ∧ t.settings = d.settings)
      ∧ t.modem = { params := d.modem.params, intake := [], pausing := none, voiceLane := [], hostLane := []
                    orderLane := match e.arb.holder with
                      | some k => [⟨LineId.toField (slotLine k.slot), 0, 0, .order ⟨.cancel, k.window, 0, .none⟩⟩]
                      | none => []
                    deviceLane := if d.modem.pausing = none then [] else [⟨0, 0, 0, .pause 0⟩]
                    sent := d.modem.sent, outCount := 0, lastCount := none, lastError := none }
      ∧ t.host = { queue := [replyFrame h.tag 15 .done], seq := 0, voice := [], pauseTimer := none
                   sending := d.host.sending, outCount := 0, lastCount := none, lastError := none, input := none
                   link := [] }
      ∧ (t.disp.lastTurn = .host ∧ t.disp.overflow = none ∧ t.disp.write = none ∧ t.disp.walking = none)
      ∧ (∀ l, t.line l = LineRec.reset (d.params l) ∧ t.page l = PagingRec.reset (d.page l).identities)
      ∧ ((∀ i, t.slot i = ⟨.idle, false, false, false, false⟩) ∧ t.arb.holder = none
        ∧ t.arb.nextWindow = e.arb.nextWindow ∧ t.arb.pointer = 12 ∧ t.arb.borrow = none)
      ∧ ((∀ i, t.text.pool.get i = none) ∧ (∀ r, t.text? r = none) ∧ t.text.order = []
        ∧ ∀ l, t.text.counts.get l = ⟨0, 0, 0, 0, 0, 0, 0, 0, 0, 0⟩)
      ∧ ((∀ k, t.call k = none) ∧ ∀ l, t.calls.counts.get l = ⟨0, 0, 0, 0, 0, 0, 0, 0, 0, 0, 0, 0, 0⟩)
      ∧ (t.meas.lock = none ∧ (∀ l, t.measLine l = MeasLine.reset)
        ∧ ∀ i, (t.entry i).cell = (e.entry i).cell ∧ (t.entry i).own = (e.entry i).own ∧ (t.entry i).ocn = (e.entry i).ocn
          ∧ (t.entry i).qoff = (e.entry i).qoff ∧ (t.entry i).inIdle = (e.entry i).inIdle
          ∧ (t.entry i).inCall = (e.entry i).inCall
          ∧ (t.entry i).state = (if (e.entry i).unowned then .free else .listed)
          ∧ (t.entry i).servingFor = ⟨false, false⟩ ∧ (t.entry i).filter = none ∧ (t.entry i).level = none
          ∧ (t.entry i).quality = none ∧ (t.entry i).misses = 0 ∧ (t.entry i).lastFrame = none
          ∧ (t.entry i).penalty = none ∧ (t.entry i).bar = none ∧ (t.entry i).trig = ⟨⟨0, false, 0⟩, ⟨0, false, 0⟩⟩)
      ∧ (∀ l, t.move.get l = ⟨none, ⟨0, 0, 0, 0, 0, 0, 0, 0, 0, 0, 0, 0⟩⟩)
      ∧ { t.sleep with settings := d.sleep.settings } = SleepRec.reset d.sleep.settings
      ∧ ∀ c, (t.cond c).on = false ∧ (t.cond c).events = 0 ∧ (t.cond c).last = none

/-! ### What every step keeps -/

/-- Every step keeps every store within its capacity (R7, R11, R16, R21, R46, R53, R94). -/
def Obligations.StoresKeepTheirCapacities : Prop :=
  ∀ s t : State, s.dev.Bounded → step s = .next t → t.dev.Bounded

/-- Every step keeps the promise of the manual's prose that a line has a serving entry exactly in Camped, Connected and Moving,
which it owns and which is marked as serving for it alone by that line, that at most one line is Connected or Moving, and
that a line's move record fits its state (R41, R51, R130, R150). -/
def Obligations.LinesKeepTheirServingCells : Prop :=
  ∀ s t : State, s.dev.LinesFit → step s = .next t → t.dev.LinesFit

/-- Every step from lines that fit keeps the promise that every call record belongs to a line in Connected, Moving or Stopping,
that a Connected or Moving line has a record, that at most one record is Active, and that no two records have the same line
and reference (R109, R111, R112). -/
def Obligations.CallRecordsFitTheirLines : Prop :=
  ∀ s t : State, s.dev.LinesFit → s.dev.CallsFit → step s = .next t → t.dev.CallsFit

/-- Every step keeps the Part Pool and the Assembly Records in agreement: the slots that records hold and the free slots always
number 48, no record holds a part twice, and the assembly list holds the records that are not Free (R96, R97). -/
def Obligations.PartPoolMatchesTheRecords : Prop :=
  ∀ s t : State, s.dev.PoolFits → step s = .next t → t.dev.PoolFits

/-- Every step keeps the cells of the entries that are not Free unique, and an entry Free exactly where it has no owner (R127,
R128). -/
def Obligations.NeighbourCellsStayUnique : Prop :=
  ∀ s t : State, s.dev.CellsFit → step s = .next t → t.dev.CellsFit

/-- The state after reset meets each of these invariants. -/
def Obligations.ResetMeetsTheInvariants : Prop :=
  State.reset.dev.Bounded ∧ State.reset.dev.LinesFit ∧ State.reset.dev.CallsFit ∧ State.reset.dev.PoolFits
  ∧ State.reset.dev.CellsFit

/-- The settings that the host configures change at no row but a write of them, Cold Reset, and the rows that let a waiting
write take effect. -/
def Obligations.SettingsChangeOnlyByWrites : Prop :=
  ∀ (i : Instr) (s t : State), writesSettings i = false → exec i s = .next t → t.dev.settings = s.dev.settings

/-! ### Link frames (chapter 1) -/

/-- A frame of at most 3072 payload bytes, built as the device builds what it sends, passes the intake checks of a port
that accepts its kind, and reads back as it was written: no field of the header is dropped, and the check is the one
computed (R1, R2, R5). -/
def Obligations.LinkFrameRoundTrip : Prop :=
  ∀ (p : Port) (k : Kind) (line cls : BitVec 2) (tag : Byte) (count : Half) (payload : List Byte),
    accepts p k = true → line ≠ 3 → payload.length ≤ 3072 →
    let bytes := headerBytes k line cls tag (BitVec.ofNat 16 payload.length) count ++ payload
      ++ halfBytes (frameCheck k line cls tag count payload)
    intakeError p bytes = none
    ∧ headerOf bytes = ⟨some k, line, cls, tag, BitVec.ofNat 16 payload.length, count⟩
    ∧ payloadOf bytes = payload

/-- A frame that fails an intake check at either port is discarded whole: the port's last error and its warning's record
change, with Line 0 (log entry 10) and the error's number, and no unit and no other condition sees it but F2, where the queue
is full. A warning already Raised or masked sends no notice and the sleep state stays; one that is Clear sends its CONDITION
notice, where the queue has room. It is no host arrival (R4, R5, R180, R181). -/
def Obligations.IntakeErrorsKeepNothing : Prop :=
  ∀ (d : Device) (q : List Instr) (e : IntakeError), d.inReset = false →
    let raised (c : Cond) (t : Device) : Prop :=
      SamePort { d with host := { d.host with lastError := t.host.lastError } } t ∧ t.host.lastCount = d.host.lastCount
      ∧ t.cond c = { d.cond c with on := true, events := satInc (d.cond c).events, last := some (0, e.number) }
      ∧ (∀ x, x ≠ c → x ≠ .f2 → t.cond x = d.cond x)
      ∧ ((d.cond c).on = true ∨ (d.cond c).mask = true →
          t.host.queue = d.host.queue ∧ t.host.seq = d.host.seq ∧ t.sleep = d.sleep ∧ t.cond .f2 = d.cond .f2)
      ∧ ((d.cond c).on = false → (d.cond c).mask = false → d.host.queue.length < 48 →
          t.host.seq = d.host.seq + 1 ∧ t.cond .f2 = d.cond .f2
          ∧ t.host.queue = d.host.queue
            ++ [⟨0, .normal, d.host.seq, .notice ⟨e.number, .condition c (satInc (d.cond c).events) none⟩⟩])
    (∀ f : WireFrame, intakeError .modem f.bytes = some e →
      Answers (.modemFrameIntake f) ⟨d, q⟩ fun t =>
        SameBlocks { d with modem := { d.modem with lastError := some e } } t ∧ t.host.lastError = d.host.lastError
        ∧ raised .w1 t)
    ∧ (∀ (bytes : List Byte) (x : Fields) (i : Instr), Listening d → intakeError .host bytes = some e →
      (i = .hostLinkFrameError bytes ∨ i = .hostPause bytes ∨ i = .hostFrameIntake ⟨bytes, x⟩) →
      Answers i ⟨d, q⟩ fun t => SameBlocks d t ∧ t.host.lastError = some e ∧ raised .w2 t)

/-- MODEM_FRAME_INTAKE of an accepted frame: its Link Count is recorded; a PAGE, SIGNAL, SAMPLE or VOICE joins the tail of the
Intake Queue while it holds fewer than 32 frames, and where that brings the fill to the pause-on watermark while Not Pausing, with
room in the Device lane, PAUSE with the pause time is sent and the repeat timer starts; a frame that finds the queue full is
discarded, with W3 for a SAMPLE and F1 for any other kind, whose last event names the frame's line (log entry 10); a RADIO status
acts as its own row. The Line field 0 of the PAUSE is log entry 60 (R4, R5, R7, R8). -/
def Obligations.ModemFrameJoinsIntake : Prop :=
  ∀ (d : Device) (q : List Instr) (f : WireFrame) (k : Kind), d.inReset = false → intakeError .modem f.bytes = none →
    (headerOf f.bytes).kind = some k →
    let joined : ModemPort :=
      { d.modem with
        intake := d.modem.intake ++ [linkFrameOf f k], lastCount := some (headerOf f.bytes).linkCount }
    (k ≠ .radio → d.modem.intake.length < 32 →
      (d.modem.pausing ≠ none ∨ d.modem.intake.length + 1 < d.modem.params.pauseOn) →
      Answers (.modemFrameIntake f) ⟨d, q⟩ fun t => t = { d with modem := joined })
    ∧ (k ≠ .radio → d.modem.intake.length < 32 → d.modem.pausing = none →
      d.modem.params.pauseOn ≤ d.modem.intake.length + 1 → d.modem.deviceLane.length < 8 →
      Answers (.modemFrameIntake f) ⟨d, q⟩ fun t =>
        t = { d with
          modem := { joined with
            deviceLane := d.modem.deviceLane ++ [⟨0, 0, 0, .pause (BitVec.ofNat 16 d.modem.params.pauseTime)⟩]
            pausing := some (10 * d.modem.params.pauseTime) } })
    ∧ (k ≠ .radio → 32 ≤ d.modem.intake.length →
      Answers (.modemFrameIntake f) ⟨d, q⟩ fun t =>
        let c : Cond := if k = .sample then .w3 else .f1
        SameBlocks { d with modem := { d.modem with lastCount := some (headerOf f.bytes).linkCount } } t
        ∧ t.cond c
          = { d.cond c with on := true, events := satInc (d.cond c).events, last := some ((headerOf f.bytes).line, 0) })
    ∧ (k = .radio → ∀ i : Instr,
      i = (match f.fields.status with
        | some .ready => .ready (headerOf f.bytes).linkCount f.fields.window
        | some .done => .done (headerOf f.bytes).linkCount f.fields.window
        | some .syncFound => .syncFound (headerOf f.bytes).linkCount f.fields.cell
        | some .syncLost => .syncLost (headerOf f.bytes).linkCount f.fields.cell
        | some .linkRestart => .linkRestart (headerOf f.bytes).linkCount
        | none => .ready (headerOf f.bytes).linkCount none) →
      exec (.modemFrameIntake f) ⟨d, q⟩ = exec i ⟨d, q⟩)

/-- HOST_FRAME_INTAKE and HOST_PAUSE of an accepted frame, which are host arrivals: a SIGNAL or VOICE frame takes the host input
place; a PAUSE starts the host pause timer at the carried time in units of 10 ms, or stops it for a time of 0; one whose payload
is not two bytes leaves the timer and raises W2. While the input place or the command place is held, the Host Port takes in
nothing: a row of the host waits on its link, behind what waits there, with no effect (R1, R4, R5, R19, R26, R169, R173; that it
is kept on the link is log entry 7). -/
def Obligations.HostFramesAndPauses : Prop :=
  (∀ (d : Device) (q : List Instr), Listening d →
    (∀ (f : WireFrame) (k : Kind), intakeError .host f.bytes = none → (headerOf f.bytes).kind = some k →
      (k = .signal ∨ k = .voice) →
      Answers (.hostFrameIntake f) ⟨d, q⟩ fun t =>
        t.host.input = some (linkFrameOf f k) ∧ t.host.lastCount = some (headerOf f.bytes).linkCount ∧ Arrived d t
        ∧ SameBlocks d t)
    ∧ (∀ (bytes : List Byte), intakeError .host bytes = none → (headerOf bytes).kind = some .pause →
      Answers (.hostPause bytes) ⟨d, q⟩ fun t =>
        t.host.lastCount = some (headerOf bytes).linkCount ∧ t.host.voice = d.host.voice ∧ t.host.input = none
        ∧ SameBlocks d t
        ∧ (∀ hi lo : Byte, payloadOf bytes = [hi, lo] →
          t.host.pauseTimer = (if halfOf hi lo = 0 then none else some (10 * (halfOf hi lo).toNat)) ∧ t.conds = d.conds
          ∧ Arrived d t)
        ∧ ((payloadOf bytes).length ≠ 2 →
          t.host.pauseTimer = d.host.pauseTimer ∧ (t.cond .w2).on = true
          ∧ (t.cond .w2).events = satInc (d.cond .w2).events)))
  ∧ ∀ (i : Instr) (d : Device) (q : List Instr), fromHost i = true → d.inReset = false → linkBlocked d = true →
    exec i ⟨d, q⟩ = .next ⟨{ d with host := { d.host with link := d.host.link ++ [i] } }, q⟩

/-- Timers that have run out: HOST_PAUSE_EXPIRY (R19), PAUSE_REPEAT_EXPIRY, whose PAUSE, with Line 0 (log entry
60), a full Device lane loses (R8, R13),
PENALTY_EXPIRY and BAR_EXPIRY (R146), and WAKE_REPULSE_END (R171), each with an effect on its own block alone;
MEASUREMENT_TIMER_EXPIRY and SEARCH_RETRY_EXPIRY while another slot holds the radio and the line's own slot is Idle: the line's
slot is requested, and the measurement timer restarts or the retry timer stops (R45, R49, R134, R135). -/
def Obligations.DueTimersAct : Prop :=
  ∀ (d : Device) (q : List Instr), d.inReset = false →
    (d.host.pauseTimer = some 0 →
      Answers .hostPauseExpiry ⟨d, q⟩ fun t => t = { d with host := { d.host with pauseTimer := none } })
    ∧ (d.modem.pausing = some 0 →
      Answers .pauseRepeatExpiry ⟨d, q⟩ fun t =>
        t = { d with
          modem := { d.modem with
            deviceLane := if d.modem.deviceLane.length < 8
              then d.modem.deviceLane ++ [⟨0, 0, 0, .pause (BitVec.ofNat 16 d.modem.params.pauseTime)⟩]
              else d.modem.deviceLane
            pausing := some (10 * d.modem.params.pauseTime) } })
    ∧ (∀ i : Fin 24, (d.entry i).penalty = some 0 →
      Answers (.penaltyExpiry i) ⟨d, q⟩ fun t => t = d.onEntry i fun e => { e with penalty := none })
    ∧ (∀ i : Fin 24, (d.entry i).state = .barred → (d.entry i).bar = some 0 →
      Answers (.barExpiry i) ⟨d, q⟩ fun t =>
        (t.entry i).state = .listed ∧ (t.entry i).bar = none ∧ (t.entry i).filter = none ∧ (t.entry i).misses = 0
        ∧ (t.entry i).cell = (d.entry i).cell ∧ (t.entry i).own = (d.entry i).own
        ∧ (∀ j, j ≠ i → t.entry j = d.entry j) ∧ t.meas.lines = d.meas.lines ∧ t.meas.lock = d.meas.lock
        ∧ SameBlocks { d with meas := t.meas } t ∧ t.host = d.host ∧ t.sleep = d.sleep ∧ t.conds = d.conds)
    ∧ (d.sleep.repulse = some 0 →
      Answers .wakeRepulseEnd ⟨d, q⟩ fun t => t = { d with sleep := { d.sleep with repulse := none, wake := true } })
    ∧ ∀ (l : LineId) (h : Holder), d.arb.holder = some h →
      (h.slot ≠ slotOf .measure l → slotState d (slotOf .measure l) = .idle → (d.measLine l).timer = .running 0 →
        Answers (.measurementTimerExpiry l) ⟨d, q⟩ fun t =>
          (t.measLine l).timer = .running (if (d.measLine l).sched = .connected then (d.params l).intervalG
            else (d.params l).intervalM)
          ∧ (slotState t (slotOf .measure l)).waits = true
          ∧ SameBlocks { d with
              arb := t.arb, modem := { d.modem with orderLane := t.modem.orderLane }
              meas := { d.meas with lines := t.meas.lines } } t)
      ∧ (h.slot ≠ slotOf .search l → slotState d (slotOf .search l) = .idle → d.lineState l = .searching →
        (d.line l).retry = some 0 → (∃ i, (d.entry i).own.get l = true ∧ (d.entry i).state = .listed) →
        Answers (.searchRetryExpiry l) ⟨d, q⟩ fun t =>
          (t.line l).retry = none ∧ t.lineState l = .searching ∧ (t.line l).searchList ≠ []
          ∧ (t.line l).searchList.length ≤ 8 ∧ (slotState t (slotOf .search l)).waits = true
          ∧ t.line l.other = d.line l.other ∧ t.calls = d.calls ∧ t.text = d.text ∧ t.meas = d.meas ∧ t.paging = d.paging
          ∧ t.move = d.move ∧ t.disp = d.disp)

/-! ### Dispatch (chapter 2) -/

/-- A walk visits the rules of its chain in order: from the entry's start, each visit that goes on leads to the next, the first
that applies an action or ends decides, and a sixteenth that would go on overflows to the entry default with W6 and the overflow
record. A rule matches when it is in use and its four tests pass; Jump leads on, an action of the frame's own direction or Drop is
applied, any other match and every miss follow miss-next, and a rule not in use leads to End. A walk that had begun keeps the
host power of its start (R27 to R30). -/
def Obligations.WalkFollowsTheChain : Prop :=
  (∀ (r : Rule) (p : Power) (f : LinkFrame), r.matches p f = true ↔
    r.inUse = true ∧ (r.kind = .any ∨ r.kind = .is f.kind)
    ∧ (r.mtype = .any ∨ f.kind ≠ .signal ∨ r.mtype = .is f.fields.mtype ∧ ∀ n, f.fields.mtype ≠ .undefined n)
    ∧ (r.line = .any ∨ r.line = .is (LineId.ofField f.line))
    ∧ (r.power = .any ∨ r.power = .is .awake ∧ (p = .awake ∨ p = .offered)
      ∨ r.power = .is .asleepOrWaking ∧ (p = .asleep ∨ p = .waking)))
  ∧ (∀ (r : Rule) (dir : Direct) (p : Power) (f : LinkFrame),
    let own : Bool := r.action = .drop ∨ (if dir = .down then r.action = .handle ∨ r.action = .deliver ∨ r.action = .both
      else r.action = .track ∨ r.action = .pass)
    r.visit dir p f =
      if r.inUse = false then .ends
      else if r.matches p f = true ∧ r.action = .jump then .goOn r.jump
      else if r.matches p f = true ∧ own = true then .apply r.action r.cls
      else r.missNext.elim .ends .goOn)
  ∧ (∀ (t : Dispatcher) (dir : Direct) (p : Power) (f : LinkFrame),
    let start := (t.entries.get (entryNumber dir f.kind)).start
    let visit (i : Fin 64) : Visit := (t.rules.get i).visit dir p f
    (start = none → walk t dir p f = .default)
    ∧ ∀ (path : List (Fin 64)) (i : Fin 64), path.head? = start → path.getLast? = some i → path.length ≤ 16 →
      path.IsChain (fun x y => visit x = .goOn y) →
      (∀ a c, visit i = .apply a c → walk t dir p f = .rule a c)
      ∧ (visit i = .ends → walk t dir p f = .default)
      ∧ (path.length = 16 → ∀ j, visit i = .goOn j → walk t dir p f = .overflow i))
  ∧ ∀ (d x : Device) (q : List Instr) (dir : Direct) (p : Power) (f : LinkFrame) (i : Fin 64), d.inReset = false →
    d.disp.write = none → d.host.link = [] → WalksNext d dir p f x → walk x.disp dir p f = .overflow i →
    (x.disp.entries.get (entryNumber dir f.kind)).default = .drop →
    Answers .dispatchWalk ⟨d, q⟩ fun t =>
      t.disp = { x.disp with
        overflow := some ⟨entryNumber dir f.kind, (x.disp.entries.get (entryNumber dir f.kind)).start, i⟩ }
      ∧ SameBlocks { x with disp := t.disp } t
      ∧ (t.cond .w6).on = true ∧ (t.cond .w6).events = satInc (d.cond .w6).events
      ∧ (t.cond .w6).last.map Prod.snd = some (entryNumber dir f.kind).val

/-- DISPATCH_WALK of a frame that the walk drops: the frame leaves its input and nothing else changes. No unit is told, no
copy is made, no condition is raised (R34). Where both inputs hold a frame, it is the one not taken from last (R26). A dropped
modem frame is still a leave of the Intake Queue: while the Modem Port is Pausing, and the fill has come down to the pause-off
watermark, a PAUSE 0 is sent and the pause ends, its Line field left open; a full Device lane loses that PAUSE 0 (R8, R13). A
frame whose walk had begun has left the Intake Queue already, and is tested under the host power of the walk's start (R27; log
entry 6). -/
def Obligations.DropLeavesNothing : Prop :=
  ∀ (d : Device) (q : List Instr) (f : LinkFrame), d.inReset = false → d.disp.write = none → d.host.link = [] →
    (∀ (p : Power) (c : Cls), d.disp.walking = some ⟨f, p⟩ →
      (walk d.disp .down p f = .rule .drop c
        ∨ walk d.disp .down p f = .default ∧ (d.disp.entries.get (entryNumber .down f.kind)).default = .drop) →
      Answers .dispatchWalk ⟨d, q⟩ fun t => t = { d with disp := { d.disp with walking := none } })
    ∧ (∀ (rest : List LinkFrame) (c : Cls), d.disp.walking = none → d.modem.intake = f :: rest →
      (d.host.input = none ∨ d.disp.lastTurn = .host) →
      (walk d.disp .down d.sleep.power f = .rule .drop c
        ∨ walk d.disp .down d.sleep.power f = .default
          ∧ (d.disp.entries.get (entryNumber .down f.kind)).default = .drop) →
      Answers .dispatchWalk ⟨d, q⟩ fun t =>
        if d.modem.pausing ≠ none ∧ rest.length ≤ d.modem.params.pauseOff then
          ∃ line, t = { d with
            modem := { d.modem with
              intake := rest, pausing := none
              deviceLane := if d.modem.deviceLane.length < 8 then d.modem.deviceLane ++ [⟨line, 0, 0, .pause 0⟩]
                else d.modem.deviceLane }
            disp := { d.disp with lastTurn := .modem } }
        else t = { d with modem := { d.modem with intake := rest }, disp := { d.disp with lastTurn := .modem } })
    ∧ (∀ c : Cls, d.disp.walking = none → d.host.input = some f → (d.modem.intake = [] ∨ d.disp.lastTurn = .modem) →
      (walk d.disp .up d.sleep.power f = .rule .drop c
        ∨ walk d.disp .up d.sleep.power f = .default
          ∧ (d.disp.entries.get (entryNumber .up f.kind)).default = .drop) →
      Answers .dispatchWalk ⟨d, q⟩ fun t =>
        t = { d with host := { d.host with input := none }, disp := { d.disp with lastTurn := .host } })

/-- DISPATCH_WALK of a frame from the modem to which an action applies, of a rule with its class or of the entry default with
Normal or, for a SAMPLE, Bulk: Deliver offers it to the host, a VOICE frame through the voice buffer; Handle gives it to the unit
that owns its kind or message type, and delivers one that no unit owns with class Normal; Both offers the copy first, and gives
VOICE to the gate alone. The frame is the one taken now, or the one of the walk in progress, tested under the host power of the
walk's start (log entry 6). Then the walk has ended, and what waited on the host link is taken in within the same step (log entry
7; R27, R31, R32, R33). -/
def Obligations.WalkHandsDownlinkFrames : Prop :=
  ∀ (d x : Device) (q : List Instr) (p : Power) (f : LinkFrame) (a : Action) (c : Cls), d.inReset = false →
    WalksNext d .down p f x →
    (walk x.disp .down p f = .rule a c
      ∨ walk x.disp .down p f = .default
        ∧ a = (x.disp.entries.get (entryNumber .down f.kind)).default ∧ c = (if f.kind = .sample then .bulk else .normal)) →
    let ran (y : Device) (t : Device) : Prop := t = resumeLink (endWalk y)
    let copy (c : Cls) (y : Device) : Device :=
      (offer ⟨f.line, c, if f.kind = .signal then callTag f.line f.fields y else 0, .delivered f⟩ y).1
    let owner (y : Device) : Option Device :=
      match f.kind, f.fields.mtype with
      | .page, _ => some (pageMsg f y)
      | .sample, _ => some (sampleMsg f y)
      | .signal, .cellInfo => some (cellInfoMsg f y)
      | .signal, .moveOrder => some (moveOrderMsg f y)
      | .signal, .reportConfig => some (reportConfigMsg f y)
      | .signal, .textPart => some (textPart f y)
      | .signal, .callOffer | .signal, .callAlert | .signal, .callConnect | .signal, .callClear | .signal, .clearDone
      | .signal, .holdAck | .signal, .retrieveAck => some (networkCall f y)
      | _, _ => none
    (a = .deliver → f.kind = .voice → Answers .dispatchWalk ⟨d, q⟩ (ran (bufferVoice f x)))
    ∧ (a = .handle ∨ a = .both → f.kind = .voice → Answers .dispatchWalk ⟨d, q⟩ (ran (gateDown f x)))
    ∧ (f.kind = .page ∨ f.kind = .signal ∨ f.kind = .sample →
      (a = .deliver → Answers .dispatchWalk ⟨d, q⟩ (ran (copy c x)))
      ∧ (a = .handle → Answers .dispatchWalk ⟨d, q⟩ (ran ((owner x).getD (copy .normal x))))
      ∧ (a = .both → Answers .dispatchWalk ⟨d, q⟩ (ran ((owner (copy c x)).getD (copy c x)))))

/-- DISPATCH_WALK of a frame from the host to which Track or Pass applies: Pass sends a VOICE frame to the Voice lane as it came,
and a SIGNAL frame of a line to the Line Controller; Track sends VOICE to the gate, and a SIGNAL frame on by way of the Call Unit
for the six call types, which may discard it, or counted for a TEXT-PART; a SIGNAL frame of Line 0 goes nowhere. A full Voice
lane gives up its oldest frame. Then the walk has ended, and what waited on the host link is taken in within the same step (log
entry 7; R13, R35, R36, R52, R107). -/
def Obligations.WalkSendsUplinkFrames : Prop :=
  ∀ (d x : Device) (q : List Instr) (p : Power) (f : LinkFrame) (a : Action) (c : Cls), d.inReset = false →
    WalksNext d .up p f x →
    (walk x.disp .up p f = .rule a c
      ∨ walk x.disp .up p f = .default ∧ a = (x.disp.entries.get (entryNumber .up f.kind)).default) →
    let ran (y : Device) (t : Device) : Prop := t = resumeLink (endWalk y)
    (f.kind = .voice → a = .track → Answers .dispatchWalk ⟨d, q⟩ (ran (gateUp f x)))
    ∧ (f.kind = .voice → a = .pass →
      Answers .dispatchWalk ⟨d, q⟩
        (ran { x with
          modem := { x.modem with
            voiceLane := pushDropOldest 4 x.modem.voiceLane ⟨f.line, f.cls, f.tag, .forwarded f⟩ } }))
    ∧ (f.kind = .signal → (a = .track ∨ a = .pass) → LineId.ofField f.line = none →
      Answers .dispatchWalk ⟨d, q⟩ (ran x))
    ∧ ∀ l, f.kind = .signal → LineId.ofField f.line = some l →
      (a = .pass → Answers .dispatchWalk ⟨d, q⟩ (ran (uplink l f x)))
      ∧ (a = .track → Answers .dispatchWalk ⟨d, q⟩
        (ran (match f.fields.mtype with
          | .callRequest | .callAnswer | .callHold | .callRetrieve | .callClear | .clearDone =>
            if (hostCall l f x).2 then uplink l f (hostCall l f x).1 else (hostCall l f x).1
          | .textPart =>
            uplink l f { x with
              text := { x.text with
                counts := x.text.counts.upd l fun n => { n with uplink := satInc n.uplink } } }
          | _ => uplink l f x)))

/-- ENTRY_TABLE_WRITE and DISPATCH_TABLE_WRITE. A write is refused whole with Range, and changes nothing, where it has no item,
its items run past the table's last (entry 6 among them), or an item fails: a start index or a miss-next that is neither 0..63 nor
End, a default action of the wrong direction, a match, action or class field with a value that R25 does not list, or a jump index
above 63. A write whose every item passes is taken. While no walk is in progress, the items stand in the table at once, the other
items and the other table are as they were, and the REPLY is Done. While a walk of a modem frame is in progress, the tables stay,
the command place holds the write, and nothing else but the arrival's own effect follows. That a walk has begun when the write
arrives is an operand (log entry 6): its frame has then left the Intake Queue, which may end a pause with a PAUSE 0 whose Line
field is left open (R8), and the host power of that moment stands with it (R27). DISPATCH_WRITE_APPLY applies a write whose walk
has ended whole, and offers the REPLY. A write that arrives behind a host frame in the input place is kept on the host link and
taken in by the walk's own step, after the walk of that frame, which follows the tables as they stood (log entry 7; R24, R25, R26,
R37, R38, R173). -/
def Obligations.DispatchTableWrites : Prop :=
  ∀ (d : Device) (q : List Instr) (h : CmdHead) (xs : List EntryWrite) (us : List RuleWrite), d.meas.lock = none →
    d.host.queue.length + 2 ≤ 48 → d.inReset = false → d.host.link = [] →
    let first : Nat := h.index.toNat
    let indexBad (n : Option Nat) : Prop := ∃ k, n = some k ∧ 64 ≤ k
    let entryBad (i : Nat) (x : EntryWrite) : Prop := indexBad x.start
      ∨ (if i < 4 then x.default ∉ [some .handle, some .deliver, some .both, some .drop]
        else x.default ∉ [some .track, some .pass, some .drop])
    let ruleBad (x : RuleWrite) : Prop :=
      x.kind ∉ [some .any, some (.is .page), some (.is .signal), some (.is .sample), some (.is .voice)]
      ∨ x.mtype = none ∨ (∃ n, x.mtype = some (.is (.undefined n))) ∨ x.line = none ∨ x.power = none ∨ x.action = none
      ∨ x.cls = none ∨ 64 ≤ x.jump ∨ indexBad x.missNext
    let entriesBad : Prop := xs = [] ∨ 6 < first + xs.length
      ∨ ∃ (k : Nat) (x : EntryWrite), xs[k]? = some x ∧ entryBad (first + k) x
    let rulesBad : Prop := us = [] ∨ 64 < first + us.length ∨ ∃ x ∈ us, ruleBad x
    let begun (w : Bool) (line : BitVec 2) : Device :=
      match w, d.disp.walking, d.modem.intake with
      | true, none, f :: rest =>
        { d with
          disp := { d.disp with lastTurn := .modem, walking := some ⟨f, d.sleep.power⟩ }
          modem :=
            if d.modem.pausing ≠ none ∧ rest.length ≤ d.modem.params.pauseOff then
              { d.modem with
                intake := rest, pausing := none
                deviceLane := if d.modem.deviceLane.length < 8 then d.modem.deviceLane ++ [⟨line, 0, 0, .pause 0⟩]
                  else d.modem.deviceLane }
            else { d.modem with intake := rest } }
      | _, _, _ => d
    let walks (w : Bool) : Prop := d.disp.walking ≠ none ∨ w = true ∧ d.modem.intake ≠ []
    (d.host.input = none → d.disp.write = none → ∀ w : Bool,
      (h.target.toNat = 1 → entriesBad → Answers (.entryTableWrite h (.fits xs) w) ⟨d, q⟩ fun t =>
        ∃ line, OnlyAnswered (begun w line) t ∧ Replied h 2 (.refused .range) t)
      ∧ (h.target.toNat = 2 → rulesBad → Answers (.dispatchTableWrite h (.fits us) w) ⟨d, q⟩ fun t =>
        ∃ line, OnlyAnswered (begun w line) t ∧ Replied h 2 (.refused .range) t))
    ∧ ∀ (ys : List EntryRec) (vs : List Rule), ys.length = xs.length → vs.length = us.length →
    let entriesFit : Prop := h.target.toNat = 1 ∧ ¬ entriesBad
      ∧ ∀ (k : Nat) (x : EntryWrite) (y : EntryRec), xs[k]? = some x → ys[k]? = some y →
        y.start.map Fin.val = x.start ∧ some y.default = x.default
    let rulesFit : Prop := h.target.toNat = 2 ∧ ¬ rulesBad
      ∧ ∀ (k : Nat) (x : RuleWrite) (y : Rule), us[k]? = some x → vs[k]? = some y →
        y.inUse = x.inUse ∧ some y.kind = x.kind ∧ some y.mtype = x.mtype ∧ some y.line = x.line ∧ some y.power = x.power
        ∧ some y.action = x.action ∧ y.jump.val = x.jump ∧ y.missNext.map Fin.val = x.missNext ∧ some y.cls = x.cls
    let entriesDone (turn : Turn) (t : Device) : Prop :=
      (∀ i : Fin 6, t.disp.entries.get i = itemAfter first ys i.val (d.disp.entries.get i))
      ∧ t.disp = { d.disp with entries := t.disp.entries, write := none, lastTurn := turn }
    let rulesDone (turn : Turn) (t : Device) : Prop :=
      (∀ i : Fin 64, t.disp.rules.get i = itemAfter first vs i.val (d.disp.rules.get i))
      ∧ t.disp = { d.disp with rules := t.disp.rules, write := none, lastTurn := turn }
    (d.host.input = none → d.disp.write = none → ∀ w : Bool,
      (¬ walks w →
        (entriesFit → Answers (.entryTableWrite h (.fits xs) w) ⟨d, q⟩ fun t =>
          entriesDone d.disp.lastTurn t ∧ OnlyAnswered { d with disp := t.disp } t ∧ Replied h 2 .done t)
        ∧ (rulesFit → Answers (.dispatchTableWrite h (.fits us) w) ⟨d, q⟩ fun t =>
          rulesDone d.disp.lastTurn t ∧ OnlyAnswered { d with disp := t.disp } t ∧ Replied h 2 .done t))
      ∧ (walks w →
        let keeps (x : DispatchWrite) (t : Device) : Prop := ∃ line,
          OnlyAnswered { begun w line with disp := { (begun w line).disp with write := some ⟨h.tag, x, false⟩ } } t
          ∧ t.host.queue.filter HostFrame.isReply = d.host.queue.filter HostFrame.isReply
        (entriesFit → Answers (.entryTableWrite h (.fits xs) w) ⟨d, q⟩ (keeps (.entries first ys)))
        ∧ (rulesFit → Answers (.dispatchTableWrite h (.fits us) w) ⟨d, q⟩ (keeps (.rules first vs)))))
    ∧ (d.disp.write = some ⟨h.tag, .entries first ys, true⟩ →
      Answers .dispatchWriteApply ⟨d, q⟩ fun t =>
        entriesDone d.disp.lastTurn t ∧ OnlyReplied { d with disp := t.disp } t ∧ Replied h 2 .done t)
    ∧ (d.disp.write = some ⟨h.tag, .rules first vs, true⟩ →
      Answers .dispatchWriteApply ⟨d, q⟩ fun t =>
        rulesDone d.disp.lastTurn t ∧ OnlyReplied { d with disp := t.disp } t ∧ Replied h 2 .done t)
    ∧ ∀ (f : LinkFrame) (c : Cls) (w : Bool), d.host.input = some f → d.disp.write = none → d.disp.walking = none →
      d.modem.intake = [] → walk d.disp .up d.sleep.power f = .rule .drop c →
      (entriesFit →
        exec (.entryTableWrite h (.fits xs) w) ⟨d, q⟩
          = .next ⟨{ d with host := { d.host with link := [.entryTableWrite h (.fits xs) w] } }, q⟩
        ∧ Answers .dispatchWalk ⟨{ d with host := { d.host with link := [.entryTableWrite h (.fits xs) w] } }, q⟩ fun t =>
          entriesDone .host t ∧ OnlyAnswered { d with disp := t.disp, host := { d.host with input := none } } t
          ∧ Replied h 2 .done t)
      ∧ (rulesFit →
        exec (.dispatchTableWrite h (.fits us) w) ⟨d, q⟩
          = .next ⟨{ d with host := { d.host with link := [.dispatchTableWrite h (.fits us) w] } }, q⟩
        ∧ Answers .dispatchWalk ⟨{ d with host := { d.host with link := [.dispatchTableWrite h (.fits us) w] } }, q⟩ fun t =>
          rulesDone .host t ∧ OnlyAnswered { d with disp := t.disp, host := { d.host with input := none } } t
          ∧ Replied h 2 .done t)


/-! ### Transmission and the Host-bound Queue (chapter 1) -/

/-- MODEM_TRANSMIT_START: the oldest frame of the first lane that holds one is sent, in the order Voice, Order, Device, Host, with
the next Link Count and a check of its own; the header of a forwarded frame keeps the Tag it arrived with, also where the voice
gate had put it in the Voice lane with its record's tag (log entry 12); Host-lane frames of a Moving line are passed over and keep
their places. Where a Host-lane frame leaves, the Holds are offered again, Line A's first, each while its line is Connected or
Stopping, or Camped with its ACCESS slot Active: their frames leave oldest first, a host frame for the Host lane and a PAGE-ANSWER
for the Device lane, until a host frame finds the Host lane full, and the rest stays (that a PAGE-ANSWER goes on past a Host lane
just filled is log entry 63; R2, R3, R12, R13, R14, R53). -/
def Obligations.ModemLinkTakesLanesInOrder : Prop :=
  ∀ (d : Device) (q : List Instr) (f : ModemFrame), d.inReset = false →
    let tag : Byte := match f.payload with
      | .forwarded g => g.tag
      | _ => f.tag
    let sent : SentModem :=
      ⟨{ f with tag := tag }, d.modem.outCount,
        frameCheck f.payload.kind f.line f.cls tag d.modem.outCount f.payload.bytes⟩
    (∀ rest, d.modem.voiceLane = f :: rest →
      Answers .modemTransmitStart ⟨d, q⟩ fun t =>
        t = { d with modem := { d.modem with voiceLane := rest, sent := some sent, outCount := d.modem.outCount + 1 } })
    ∧ (∀ rest, d.modem.voiceLane = [] → d.modem.orderLane = f :: rest →
      Answers .modemTransmitStart ⟨d, q⟩ fun t =>
        t = { d with modem := { d.modem with orderLane := rest, sent := some sent, outCount := d.modem.outCount + 1 } })
    ∧ (∀ rest, d.modem.voiceLane = [] → d.modem.orderLane = [] → d.modem.deviceLane = f :: rest →
      Answers .modemTransmitStart ⟨d, q⟩ fun t =>
        t = { d with modem := { d.modem with deviceLane := rest, sent := some sent, outCount := d.modem.outCount + 1 } })
    ∧ (∀ before after, d.modem.voiceLane = [] → d.modem.orderLane = [] → d.modem.deviceLane = [] →
      d.modem.hostLane = before ++ f :: after → (∀ g ∈ before, mayLeave d g = false) → mayLeave d f = true → d.Bounded →
      let isHost (x : ModemFrame) : Bool := match x.payload with
        | .pageAnswer .. => false
        | _ => true
      let offered (l : LineId) : Prop := d.lineState l = .connected ∨ d.lineState l = .stopping
        ∨ d.lineState l = .camped ∧ slotState d (slotOf .access l) = .active
      Answers .modemTransmitStart ⟨d, q⟩ fun t => ∃ out stay : LineId → List ModemFrame,
        let lane (l : LineId) : List ModemFrame := match l with
          | .a => before ++ after ++ (out .a).filter isHost
          | .b => before ++ after ++ (out .a).filter isHost ++ (out .b).filter isHost
        (∀ l, (d.line l).hold = out l ++ stay l ∧ (¬ offered l → out l = []) ∧ (lane l).length ≤ 8
          ∧ (offered l → ∀ x rest, stay l = x :: rest → isHost x = true ∧ (lane l).length = 8))
        ∧ (∀ l, t.line l = { d.line l with hold := stay l })
        ∧ t = { d with
          lines := t.lines
          modem := { d.modem with
            hostLane := lane .b, deviceLane := (out .a ++ out .b).filter fun x => !isHost x
            sent := some sent, outCount := d.modem.outCount + 1 } })

/-- HOST_TRANSMIT_START: voice first, and then the head of the Host-bound Queue, which a host PAUSE and sleep hold back.
HOST_TRANSMIT_END: the link is free; the end of the REPLY Done to Sleep Enter, with an empty Host-bound Queue, is the event at
which the host becomes Asleep, with its timers started from the settings (R20, R166). -/
def Obligations.HostLinkSendsAndEnds : Prop :=
  ∀ (d : Device) (q : List Instr), d.inReset = false →
    (∀ (f : HostFrame) (rest : List HostFrame), d.host.sending = none →
      let sent : SentHost :=
        ⟨f, d.host.outCount, frameCheck f.payload.kind f.line (clsCode f.cls) f.tag d.host.outCount f.payload.bytes⟩
      (d.host.voice = f :: rest →
        Answers .hostTransmitStart ⟨d, q⟩ fun t =>
          t = { d with host := { d.host with voice := rest, sending := some sent, outCount := d.host.outCount + 1 } })
      ∧ (d.host.voice = [] → d.host.queue = f :: rest → d.host.pauseTimer = none →
        (d.sleep.power = .awake ∨ d.sleep.power = .offered) → d.sleep.settings.idleDelay ≠ 0 → d.text.order = [] →
        Answers .hostTransmitStart ⟨d, q⟩ fun t =>
          t.host = { d.host with queue := rest, sending := some sent, outCount := d.host.outCount + 1 } ∧ SameBlocks d t)
      ∧ (d.host.voice = [] → (d.host.pauseTimer ≠ none ∨ d.sleep.power = .asleep ∨ d.sleep.power = .waking) →
        exec .hostTransmitStart ⟨d, q⟩ = .next ⟨d, q⟩))
    ∧ ∀ x : SentHost, d.host.sending = some x →
      (x.frame.isSleepEnterReply = false →
        Answers .hostTransmitEnd ⟨d, q⟩ fun t =>
          t.host.sending = none ∧ SameBlocks d t
          ∧ (d.sleep.power = .asleep ∨ d.sleep.power = .waking → t.sleep = d.sleep))
      ∧ (x.frame.isSleepEnterReply = true → d.sleep.entry = .sending → d.host.queue = [] →
        Answers .hostTransmitEnd ⟨d, q⟩ fun t =>
          t.host = { d.host with sending := none } ∧ SameBlocks d t ∧ t.sleep.power = .asleep ∧ t.sleep.entry = .clear
          ∧ t.sleep.idle = none ∧ t.sleep.guard = guardTime d.sleep.settings.guardCode
          ∧ t.sleep.maxSleep = (if d.sleep.settings.maxSleep = 0 then none else some (1000 * d.sleep.settings.maxSleep))
          ∧ t.sleep.asleepMs = 0)

/-- Offering a frame to the Host-bound Queue. While F1 or F2 is latched with the action Quiet, a Bulk frame is discarded whatever
the fill. Otherwise a frame joins where there is room: a REPLY behind the replies at the head, any other frame at the tail, a
NOTICE with the next sequence number. With the queue full, a Bulk frame is discarded; a Normal or Urgent one takes the place of
the oldest Bulk frame; an Urgent one, with no Bulk held, that of the oldest Normal frame, an F2 event; any other is discarded, an
F2 event. The F2 event names the line of the frame that was lost. Where F2 was Clear and not masked, its own notice is offered to
the full queue in turn, with the next sequence number: it takes the place of the oldest Normal frame left, or is lost, which is
one more event either way (log entries 9 and 10; R16, R17, R18, R180). -/
def Obligations.HostQueueOrder : Prop :=
  ∀ (f : HostFrame) (d : Device),
    let notice : Bool := match f.payload with
      | .notice _ => true
      | _ => false
    let joins (r : List HostFrame) : List HostFrame :=
      if f.isReply then r.takeWhile HostFrame.isReply ++ f :: r.dropWhile HostFrame.isReply
      else r ++ [if notice then { f with tag := d.host.seq } else f]
    let seqAfter : Byte := if notice then d.host.seq + 1 else d.host.seq
    let f2Notice (line : BitVec 2) (seq : Byte) : HostFrame := ⟨LineId.toField (LineId.ofField line), .urgent, seq,
      .notice ⟨0, .condition .f2 (satInc (d.cond .f2).events) (some (d.cond .f2).action)⟩⟩
    let joined (r : List HostFrame) : Prop :=
      let t := (offer f d).1
      (offer f d).2 = true ∧ t.host.queue = joins r ∧ t.host.seq = seqAfter
      ∧ SameBlocks d t ∧ SamePort d t ∧ t.host.lastCount = d.host.lastCount
    let event (n : BitVec 2) (x : CondRec) : CondRec := { x with on := true, events := satInc x.events, last := some (n, 0) }
    let events (g : CondRec → CondRec) : Prop :=
      (offer f d).1.cond .f2 = g (d.cond .f2) ∧ ∀ c, c ≠ .f2 → (offer f d).1.cond c = d.cond c
    let quieted : Prop := f.cls = .bulk
      ∧ ((d.cond .f1).on = true ∧ (d.cond .f1).action = .quiet ∨ (d.cond .f2).on = true ∧ (d.cond .f2).action = .quiet)
    let silent : Prop := (d.cond .f2).on = true ∨ (d.cond .f2).mask = true
    (quieted → offer f d = (d, false))
    ∧ (¬ quieted → d.host.queue.length < 48 → joined d.host.queue ∧ (offer f d).1.conds = d.conds)
    ∧ (48 ≤ d.host.queue.length → f.cls = .bulk → offer f d = (d, false))
    ∧ (∀ before g after, 48 ≤ d.host.queue.length → f.cls ≠ .bulk → d.host.queue = before ++ g :: after → g.cls = .bulk →
      (∀ x ∈ before, x.cls ≠ .bulk) → joined (before ++ after) ∧ (offer f d).1.conds = d.conds)
    ∧ (∀ before g after, 48 ≤ d.host.queue.length → f.cls = .urgent → (∀ x ∈ d.host.queue, x.cls ≠ .bulk) →
      d.host.queue = before ++ g :: after → g.cls = .normal → (∀ x ∈ before, x.cls ≠ .normal) → silent →
      joined (before ++ after) ∧ events (event g.line))
    ∧ (∀ before g after, 48 ≤ d.host.queue.length → f.cls = .urgent → (∀ x ∈ d.host.queue, x.cls ≠ .bulk) →
      d.host.queue = before ++ g :: after → g.cls = .normal → (∀ x ∈ before, x.cls ≠ .normal) → ¬ silent →
      let t := (offer f d).1
      let r := joins (before ++ after)
      (offer f d).2 = true ∧ SameBlocks d t ∧ SamePort d t ∧ t.host.lastCount = d.host.lastCount
      ∧ ((∀ x ∈ r, x.cls ≠ .normal) →
        t.host.queue = r ∧ t.host.seq = seqAfter ∧ events fun x => event g.line (event g.line x))
      ∧ ∀ b h a, r = b ++ h :: a → h.cls = .normal → (∀ x ∈ b, x.cls ≠ .normal) →
        t.host.queue = b ++ a ++ [f2Notice g.line seqAfter] ∧ t.host.seq = seqAfter + 1
        ∧ events fun x => event h.line (event g.line x))
    ∧ (48 ≤ d.host.queue.length → (∀ x ∈ d.host.queue, x.cls ≠ .bulk) →
      (f.cls = .normal ∨ f.cls = .urgent ∧ ∀ x ∈ d.host.queue, x.cls ≠ .normal) →
      (silent → offer f d = (d.onCond .f2 (event f.line), false))
      ∧ ((d.cond .f2).on = false → (d.cond .f2).mask = false → (∀ x ∈ d.host.queue, x.cls = .urgent) →
        (offer f d).2 = false ∧ (offer f d).1.host = d.host ∧ SameBlocks d (offer f d).1
        ∧ events fun x => event f.line (event f.line x))
      ∧ (∀ before g after, (d.cond .f2).on = false → (d.cond .f2).mask = false → d.host.queue = before ++ g :: after →
        g.cls = .normal → (∀ x ∈ before, x.cls ≠ .normal) →
        (offer f d).2 = false ∧ SameBlocks d (offer f d).1 ∧ events (fun x => event g.line (event f.line x))
        ∧ (offer f d).1.host.queue = before ++ after ++ [f2Notice f.line d.host.seq]
        ∧ (offer f d).1.host.seq = d.host.seq + 1))

/-! ### The radio (chapter 4) -/

/-- READY of the current window takes a Granted holder to Active, stops its grant timer and tells its owner: an ACCESS window
empties the line's Hold, in whatever state the line is (log entry 33), a SEARCH window its found list, and a MOVE window whose
record holds a barred target brings the follow-on TUNE to the old cell (log entries 20 and 47). An OnRequest holder that was
released, or that a slot allowed by the mode pressed while it was Granted, is asked to yield at once. A READY of the current
number in Active or Yielding is ignored, and any other READY draws a CANCEL carrying its own number, with Line 0 (log entry 32;
R46, R53, R72, R74, R77, R156). -/
def Obligations.ReadyOpensTheWindow : Prop :=
  ∀ (d : Device) (q : List Instr) (n : Half) (w : Byte), d.inReset = false →
    (∀ h : Holder, d.arb.holder = some h → h.window = w →
      let l := slotCountLine h.slot
      let opened : Device :=
        { d with
          modem := { d.modem with lastCount := some n }
          arb := { d.arb with holder := some { h with phase := .active, grantTimer := none, count := 0 } } }
      let shown : Device := match slotClass h.slot with
        | .access => emptyHold l opened
        | .search => opened.onLine l fun r => { r with found := [] }
        | _ => opened
      let barred : Prop := ∃ m, slotClass h.slot = .move ∧ d.moveRec l = some m ∧ m.barredAtReady = true
      let asked : Prop := h.release = .onRequest
        ∧ (h.released = true ∨ ∃ j, (d.slot j).want = .pending ∧ (d.slot j).pended = true ∧ classRelease d j = .whenDone
          ∧ level d h.slot ≤ level d j ∧ (d.arb.mode = .topOnly → level d j = 3))
      (h.phase = .granted → ¬ barred → ¬ asked → Answers (.ready n (some w)) ⟨d, q⟩ fun t => t = shown)
      ∧ (h.phase = .granted → ¬ barred → asked →
        Answers (.ready n (some w)) ⟨d, q⟩ fun t =>
          t = { shown with
            modem := { shown.modem with
              orderLane := pushDropOldest 4 d.modem.orderLane
                ⟨LineId.toField (slotLine h.slot), 0, 0, .order ⟨.suspend, w, 0, .none⟩⟩ }
            arb := { d.arb with holder := some { h with phase := .yielding, grantTimer := none, count := 0 } } })
      ∧ (h.phase = .granted → ∀ m, slotClass h.slot = .move → d.moveRec l = some m → m.barredAtReady = true →
        Answers (.ready n (some w)) ⟨d, q⟩ fun t =>
          t.arb.holder = some { h with phase := .granted, window := d.arb.nextWindow, length := 50
                                       grantTimer := grantMs d.arb.code, count := 0, released := false }
          ∧ t.arb.nextWindow = d.arb.nextWindow + 1
          ∧ t.modem = { d.modem with
              lastCount := some n
              orderLane := pushDropOldest 4 d.modem.orderLane
                ⟨LineId.toField (some l), 0, 0, .order ⟨.tune, d.arb.nextWindow, 50, .cell m.oldCell⟩⟩ }
          ∧ t.moveRec l = some { m with phase := .fallback, deadline := 50, extended := false
                                        fallbackCause := some .targetBarred, barredAtReady := false }
          ∧ SameBlocks { d with arb := t.arb, modem := t.modem, move := t.move } t
          ∧ t.host = d.host ∧ t.sleep = d.sleep ∧ t.conds = d.conds)
      ∧ (h.phase ≠ .granted →
        Answers (.ready n (some w)) ⟨d, q⟩ fun t => t = { d with modem := { d.modem with lastCount := some n } }))
    ∧ ((∀ h, d.arb.holder = some h → h.window ≠ w) →
      Answers (.ready n (some w)) ⟨d, q⟩ fun t =>
        t = { d with
          modem := { d.modem with
            lastCount := some n
            orderLane := pushDropOldest 4 d.modem.orderLane ⟨0, 0, 0, .order ⟨.cancel, w, 0, .none⟩⟩ } })

/-- DONE of the current window ends it: the slot goes to Idle, with a served mark where its class is fair. With no slot waiting
the radio is free then, unless the owner asks again: a BORROW slot brings the REPLY of its Radio Borrow, Ended (its Line field 0
is log entry 59); a SEARCH slot ends the search; an ACCESS slot is requested anew while the Hold still holds frames; a PAGING slot
ends its watch and, on a line scheduled Cycle-aligned, asks for a MEASURE window. With
slots waiting behind a MEASURE or TRAFFIC window an arbitration is made at once: the slot that the mode's order chooses is
Granted, its owner's order goes into the Order lane with the next window number, the rotation pointer becomes its number, and the
served marks of its level fall (that they fall at the grant is log entry 13): TRAFFIC of a Connected or Stopping line, ACCESS of a
Camped one, SEARCH of a Searching one with its channel list, PAGING within its watch, MOVE toward its target, BORROW with the
host's bytes, and MEASURE with up to W members of the line's set in circular order after its measure position, which moves to the
last of them; a MEASURE window that ends leaves the position where it is. A DONE of another number is ignored (R47, R53, R67, R70,
R71, R75, R80, R85, R132, R134, R136, R153). -/
def Obligations.DoneEndsTheWindow : Prop :=
  ∀ (d : Device) (q : List Instr) (n : Half) (w : Byte), d.inReset = false →
    (∀ h : Holder, d.arb.holder = some h → h.window = w → (d.slot h.slot).repeated = false →
      (d.slot h.slot).standing = false →
      let ended (t : Device) : Prop :=
        t.arb.holder = none ∧ (∀ i, slotState t i = .idle)
        ∧ (t.slot h.slot).served = ((d.slot h.slot).served || (slotRec d h.slot).fair)
        ∧ SameBlocks { d with arb := t.arb, modem := { d.modem with lastCount := some n } } t
      let free : Device := { d with
        modem := { d.modem with lastCount := some n }
        arb := { d.arb with
          holder := none
          slots := Tab.upd d.arb.slots h.slot fun x =>
            { x with want := .idle, repeated := false, served := x.served || (slotRec d h.slot).fair } } }
      let nextCells (l : LineId) : List (Fin 24) :=
        let pos := (d.measLine l).pos
        ((indexes 24).filter (fun k => decide (pos < k ∧ k ∈ measSet l d))
          ++ (indexes 24).filter fun k => decide (k ≤ pos ∧ k ∈ measSet l d)).take (d.params l).cellsW
      let chosen (i : Fin 13) : Prop := d.arb.mode ≠ .topOnly ∨ level d i = 3
      let regrants (i : Fin 13) (x : Device) (name : OrderName) (length : Byte) (body : OrderBody) (t : Device) : Prop :=
        t = { x with
          arb := t.arb
          modem := { x.modem with
            orderLane := pushDropOldest 4 d.modem.orderLane
              ⟨LineId.toField (slotLine i), 0, 0, .order ⟨name, d.arb.nextWindow, length, body⟩⟩ } }
        ∧ t.arb.nextWindow = d.arb.nextWindow + 1 ∧ t.arb.borrow = d.arb.borrow
        ∧ t.arb.holder = some { slot := i, phase := .granted, release := classRelease d i, window := d.arb.nextWindow
                                length := if length = 0 then 256 else length.toNat, grantTimer := grantMs d.arb.code
                                count := 0, released := false }
        ∧ ∀ j, j ≠ i → slotState t j = .idle
      (slotClass h.slot = .measure → NoneWaiting d →
        Answers (.done n (some w)) ⟨d, q⟩ fun t =>
          ended t ∧ t.arb.borrow = d.arb.borrow ∧ t.host = d.host ∧ t.sleep = d.sleep ∧ t.conds = d.conds)
      ∧ (∀ b : Borrow, slotClass h.slot = .borrow → NoneWaiting d → d.arb.borrow = some b → d.host.queue.length + 2 ≤ 48 →
        Answers (.done n (some w)) ⟨d, q⟩ fun t =>
          ended t ∧ t.arb.borrow = none ∧ t.conds = d.conds ∧ SamePort d t
          ∧ replyFrame b.tag 8 (.data (.borrow .ended)) ∈ t.host.queue ∧ d.host.queue.Sublist t.host.queue)
      ∧ (h.phase ≠ .granted → NoneWaiting d →
        let l := slotCountLine h.slot
        (slotClass h.slot = .search → (d.line l).staleSearch = false → d.lineState l = .searching →
          Answers (.done n (some w)) ⟨d, q⟩ fun t => t = searchEnd l free)
        ∧ (slotClass h.slot = .access →
          ((d.line l).hold = [] ∨ d.lineState l = .off ∨ d.lineState l = .stopping →
            Answers (.done n (some w)) ⟨d, q⟩ fun t => t = free)
          ∧ ((d.line l).hold ≠ [] → d.lineState l = .camped ∨ d.lineState l = .connected → chosen h.slot →
            Answers (.done n (some w)) ⟨d, q⟩ (regrants h.slot free .access (BitVec.ofNat 8 (d.params l).accessWindow) .none)))
        ∧ (∀ x, slotClass h.slot = .paging → (d.page l).watch = some x →
          let told : Device := if x.granted then free.onPaging l fun p => { p with watch := none } else free
          let aligned : Prop := d.lineState l = .camped ∧ (d.measLine l).sched = .cycleAligned
            ∧ (d.page l).state = .watching ∧ d.reselecting l = false
          (¬ aligned → Answers (.done n (some w)) ⟨d, q⟩ fun t => t = told)
          ∧ (aligned → chosen (slotOf .measure l) → ∀ last, (nextCells l).getLast? = some last →
            Answers (.done n (some w)) ⟨d, q⟩ (regrants (slotOf .measure l)
              (told.onMeasLine l fun y => { y with pos := last, prevPos := y.pos }) .measure
              (BitVec.ofNat 8 (d.params l).measureWindow) (.cells ((nextCells l).map fun k => (d.entry k).cell))))))
      ∧ (slotClass h.slot = .measure ∨ slotClass h.slot = .traffic → (∀ j, (d.slot j).want ≠ .deferred) →
        (chooseSlot free = none → Answers (.done n (some w)) ⟨d, q⟩ fun t => t = free)
        ∧ ∀ i, chooseSlot free = some i →
          let l := slotCountLine i
          let m := d.arb.nextWindow
          let pointed : Device := { free with arb := { free.arb with pointer := i } }
          let granted (x : Device) (name : OrderName) (length : Byte) (body : OrderBody) : Prop :=
            Answers (.done n (some w)) ⟨d, q⟩ fun t =>
              t = { x with
                modem := { free.modem with
                  orderLane := pushDropOldest 4 d.modem.orderLane
                    ⟨LineId.toField (slotLine i), 0, 0, .order ⟨name, m, length, body⟩⟩ }
                arb := { pointed.arb with
                  nextWindow := m + 1, slots := t.arb.slots
                  holder := some { slot := i, phase := .granted, release := classRelease d i, window := m
                                   length := if length = 0 then 256 else length.toNat, grantTimer := grantMs d.arb.code
                                   count := 0, released := false } } }
              ∧ ∀ j, t.slot j = { free.slot j with
                  want := if j = i then .idle else (free.slot j).want, pended := false
                  served := if j ≠ i ∧ level d j = level d i then false else (free.slot j).served }
          (slotClass i = .traffic → d.lineState l = .connected ∨ d.lineState l = .stopping →
            granted pointed .traffic 0 .none)
          ∧ (slotClass i = .access → d.lineState l = .camped →
            granted pointed .access (BitVec.ofNat 8 (d.params l).accessWindow) .none)
          ∧ (slotClass i = .search → d.lineState l = .searching →
            granted pointed .search (BitVec.ofNat 8 (d.params l).searchWindow) (.channels (d.line l).searchList))
          ∧ (∀ b, slotClass i = .borrow → d.arb.borrow = some b → granted pointed .borrowOrder b.length (.bytes b.bytes))
          ∧ (∀ x, slotClass i = .paging → (d.page l).watch = some x → x.toOccasion ≠ 0 →
            granted (pointed.onPaging l fun p => { p with watch := some { x with granted := true } }) .listen
              (BitVec.ofNat 8 (d.params l).listenWindow) .none)
          ∧ (∀ r, slotClass i = .move → d.moveRec l = some r → r.phase = .waitingGrant →
            granted (pointed.onMove l fun x => { x with record := some { r with phase := .tuning } }) .tune
              (BitVec.ofNat 8 (min r.deadline 256)) (.cell r.target))
          ∧ (∀ last, slotClass i = .measure → d.lineState l = .camped ∨ d.lineState l = .connected →
            d.reselecting l = false → (nextCells l).getLast? = some last →
            granted (pointed.onMeasLine l fun x => { x with pos := last, prevPos := x.pos }) .measure
              (BitVec.ofNat 8 (d.params l).measureWindow) (.cells ((nextCells l).map fun k => (d.entry k).cell)))))
    ∧ ((∀ h, d.arb.holder = some h → h.window ≠ w) →
      Answers (.done n (some w)) ⟨d, q⟩ fun t => t = { d with modem := { d.modem with lastCount := some n } })

/-- SYNC_FOUND and SYNC_LOST act on each line whose serving cell they name, whatever slot holds the radio. SYNC_FOUND stops the
radio-link timer of a Connected one and leaves a Camped one; where a MOVE slot holds the radio its owner is told next. SYNC_LOST
starts that timer of a Connected line at its timeout, unless it runs already, and loses a Camped line unless its reselection has
left Waiting Grant: cause Sync, F4 latched, without its serving entry, its Hold, its calls and its slots, a waiting reselection
counted as lost, and on by F4's action; the other line stays as it is. A cell that serves two Camped lines with no move of Line B
loses both, Line A to the end before Line B, with an F4 event each (log entry 46). LINK_RESTART:
every slot goes to Idle with no CANCEL, a Radio Borrow is answered, and each line is treated by its state: Off and Lost stay, but
that the found list of a SEARCH window that outlived a stop is discarded (log entry 17); Searching searches anew with an empty
found list; Camped is Searching, its reselection cleared without a result; Connected and Moving are Lost with cause Restart, their
calls freed, and then Searching, or Off with the deferred stop; Stopping is Off, its calls freed. F6 is latched, and its Stop
Lines action leaves both lines Off. A MEASURE window withdrawn by either puts the measure position back. A status that lacks its
field is discarded with W1 (R47, R57, R58, R59, R79, R125, R136, R182). -/
def Obligations.SyncAndRestart : Prop :=
  ∀ (d : Device) (q : List Instr) (n : Half), d.inReset = false →
    let counted : Device := d.onModem fun m => { m with lastCount := some n }
    let position (l : LineId) : Fin 24 :=
      if (slotState d (slotOf .measure l)).holds then (d.measLine l).prevPos else (d.measLine l).pos
    let next (l : LineId) : LineState :=
      if (d.line l).deferredStop = true ∨ (d.cond .f4).action = .stop then .off
      else if (d.cond .f4).action = .search then .searching
      else .lost
    (∀ c : Cell,
      let linked (f : LineRec → FrameTimer) : Device :=
        let set (l : LineId) (r : LineRec) : LineRec :=
          if d.lineState l = .connected ∧ d.servingCell l = some c then { r with radioLink := f r } else r
        (counted.onLine .a (set .a)).onLine .b (set .b)
      let stopped : Device := linked fun _ => .stopped
      let started : Device := linked fun r => match r.radioLink with
        | .running k => .running k
        | _ => .running r.params.radioLinkTimeout
      let tuned (l : LineId) : Prop := ∃ m, d.moveRec l = some m ∧ m.kind = .reselect ∧ m.phase ≠ .waitingGrant
      let hit (l : LineId) : Prop := d.lineState l = .camped ∧ d.servingCell l = some c ∧ ¬ tuned l
      let lost (l : LineId) (t : Device) : Prop :=
        t.lineState l = next l ∧ (t.line l).lossCause = (if next l = .off then none else some .sync)
        ∧ (t.line l).serving = none ∧ (t.line l).radioLink = .stopped ∧ (t.line l).overrides = none
        ∧ (t.line l).hold = [] ∧ (t.page l).state = .off ∧ t.moveRec l = none
        ∧ (t.move.get l).counts = (if d.reselecting l then
            { (d.move.get l).counts with reselLost := satInc (d.move.get l).counts.reselLost }
          else (d.move.get l).counts)
        ∧ (∀ k r, t.call k = some r → r.line ≠ l)
        ∧ (∀ i, slotLine i = some l → slotState t i ≠ .idle → i = slotOf .search l ∧ next l = .searching)
        ∧ (t.measLine l).pos = position l
        ∧ (t.cond .f4).on = true ∧ t.disp = d.disp ∧ t.modem.lastCount = some n
      ((∀ h, d.arb.holder = some h → slotClass h.slot ≠ .move) →
        Answers (.syncFound n (some c)) ⟨d, q⟩ fun t => t = stopped)
      ∧ (∀ h, d.arb.holder = some h → slotClass h.slot = .move →
        Answers (.syncFound n (some c)) ⟨d, q⟩ fun t => t = moveSyncFound (slotCountLine h.slot) c stopped)
      ∧ ((∀ l, ¬ hit l) → Answers (.syncLost n (some c)) ⟨d, q⟩ fun t => t = started)
      ∧ (∀ l, hit l → (∀ m, d.moveRec l = some m → m.kind = .reselect) → ¬ hit l.other →
        Answers (.syncLost n (some c)) ⟨d, q⟩ fun t =>
          lost l t ∧ (∀ k, t.call k = (d.call k).filter fun r => r.line != l)
          ∧ (t.cond .f4).events = satInc (d.cond .f4).events ∧ (t.cond .f4).last = some (LineId.toField (some l), 0)
          ∧ t.lineState l.other = d.lineState l.other ∧ (t.line l.other).serving = (d.line l.other).serving
          ∧ (t.line l.other).radioLink = (started.line l.other).radioLink)
      ∧ (hit .a → hit .b → (∀ m, d.moveRec .a = some m → m.kind = .reselect) → d.moveRec .b = none →
        Answers (.syncLost n (some c)) ⟨d, q⟩ fun t =>
          lost .a t ∧ lost .b t ∧ (∀ k, t.call k = none)
          ∧ (t.cond .f4).events = satInc (satInc (d.cond .f4).events)
          ∧ (t.cond .f4).last = some (LineId.toField (some .b), 0)))
    ∧ (Answers (.linkRestart n) ⟨d, q⟩ fun t =>
        let inCall (l : LineId) : Bool := d.carriesCall l || d.lineState l == .stopping
        t.modem.lastCount = some n ∧ (t.cond .f6).on = true ∧ (t.cond .f6).events = satInc (d.cond .f6).events
        ∧ t.disp = d.disp ∧ t.arb.borrow = none ∧ slotState t 12 = .idle ∧ (∀ l, (t.measLine l).pos = position l)
        ∧ (∀ k, t.call k = (d.call k).filter fun r => !inCall r.line)
        ∧ (∀ f ∈ t.modem.orderLane, f ∈ d.modem.orderLane ∨ ∃ o, f.payload = .order o ∧ o.name = .search)
        ∧ ((d.cond .f6).action = .stopLines → ∀ l, t.lineState l = .off)
        ∧ ((d.cond .f6).action ≠ .stopLines →
          (∀ i, slotState t i ≠ .idle → ∃ l, i = slotOf .search l ∧ t.lineState l = .searching)
          ∧ (∀ i, (t.slot i).repeated = false ∧ (t.slot i).standing = false)
          ∧ ∀ l, t.lineState l = (match d.lineState l with
              | .off | .stopping => .off
              | .lost => .lost
              | .searching | .camped => .searching
              | .connected | .moving => if (d.line l).deferredStop then .off else .searching)
            ∧ (d.lineState l = .off ∨ d.lineState l = .lost →
              t.line l = (if (slotState d (slotOf .search l)).holds then { d.line l with staleSearch := false, found := [] }
                else d.line l)
              ∧ { t.page l with watch := none } = { d.page l with watch := none } ∧ t.move.get l = d.move.get l)
            ∧ (d.lineState l = .searching →
              (t.line l).found = [] ∧ (t.line l).lossCause = (d.line l).lossCause
              ∧ ((∃ i, (d.entry i).own.get l = true ∧ (d.entry i).state = .listed) →
                (t.line l).noServiceSent = (d.line l).noServiceSent ∧ (t.line l).searchList ≠ []
                ∧ slotState t (slotOf .search l) ≠ .idle))
            ∧ (d.lineState l = .camped ∨ d.lineState l = .connected ∨ d.lineState l = .moving →
              (t.line l).serving = none ∧ (t.line l).radioLink = .stopped ∧ (t.line l).hold = [] ∧ (t.page l).state = .off)
            ∧ (d.lineState l = .camped → t.move.get l = { d.move.get l with record := none })
            ∧ (d.lineState l = .connected ∨ d.lineState l = .moving →
              (t.line l).lossCause = (if (d.line l).deferredStop then none else some .restart) ∧ (t.line l).overrides = none)
            ∧ (∀ m, d.lineState l = .moving → d.moveRec l = some m → m.kind = .handover →
              t.moveRec l = none ∧ (t.move.get l).counts
                = { (d.move.get l).counts with handoversLost := satInc (d.move.get l).counts.handoversLost })
            ∧ (d.lineState l = .stopping → (t.line l).hold = [])))
    ∧ ∀ i ∈ [Instr.ready n none, .done n none, .syncFound n none, .syncLost n none],
      Answers i ⟨d, q⟩ fun t =>
        SameBlocks { d with modem := { d.modem with lastCount := some n } } t ∧ (t.cond .w1).on = true
        ∧ (t.cond .w1).events = satInc (d.cond .w1).events

/-- FRAME_BOUNDARY of a line, in every state: its Frame Counter advances by one modulo 4096 and its running radio-link timer goes
down by one, and the other line, the calls, the texts, the neighbour entries, the dispatch tables and the lanes of the device and
the host stay as they are. It counts for a holder of the line (or of Line A for BORROW) that is Active or Yielding, and takes one
from the line's running measurement timer, from the deadline of its move whose MOVE slot is Active with a TUNE placed, from the
two counts of its occasion watch and from the hold count of every item of its Recent Page List, each down to 0. At a Watching
line's request frame the occasion watch starts and, behind another slot's window, the PAGING slot waits; with a watch still
present the occasion is missed. OCCASION_END_MISS with the PAGING slot still waiting behind another slot's window: the slot is
released, the watch ends and one occasion is missed. RECENT_PAGE_EXPIRY: the items whose hold count has run out leave the list
(R42, R57, R74, R76, R84, R86, R94, R134, R135, R150, R153). -/
def Obligations.BoundaryAndOccasions : Prop :=
  ∀ (d : Device) (q : List Instr) (l : LineId), d.inReset = false →
    let tick (x : FrameTimer) : FrameTimer := match x with
      | .running n => .running (n - 1)
      | x => x
    let occasion : Prop := (d.page l).state = .watching ∧ ∃ r c, requestFrame l d = some r ∧ (d.line l).cycle = some c
      ∧ ((d.line l).frame + 1).toNat % c = r
    let begins : Prop := occasion ∧ (d.page l).watch = none
    let counted (h : Holder) : Holder :=
      if slotCountLine h.slot = l ∧ h.phase ≠ .granted then { h with count := h.count + 1 } else h
    let paged : PagingRec := { d.page l with
      watch := (d.page l).watch.map fun w => { w with toOccasion := w.toOccasion - 1, toEnd := w.toEnd - 1 }
      recent := (d.page l).recent.map fun r => { r with left := r.left - 1 } }
    (Answers (.frameBoundary l) ⟨d, q⟩ fun t =>
      t.line l = { d.line l with frame := (d.line l).frame + 1, radioLink := tick (d.line l).radioLink }
      ∧ t.line l.other = d.line l.other ∧ t.calls = d.calls ∧ t.text = d.text ∧ t.meas.entries = d.meas.entries
      ∧ t.meas.lock = d.meas.lock ∧ t.disp = d.disp ∧ t.modem.intake = d.modem.intake
      ∧ t.modem.deviceLane = d.modem.deviceLane ∧ t.modem.hostLane = d.modem.hostLane
      ∧ t.host = d.host ∧ t.sleep = d.sleep ∧ t.conds = d.conds
      ∧ (¬ begins ∨ d.arb.holder ≠ none →
        t.measLine l = { d.measLine l with timer := tick (d.measLine l).timer }
        ∧ t.measLine l.other = d.measLine l.other ∧ t.move.get l.other = d.move.get l.other
        ∧ t.move.get l = { d.move.get l with
            record := (d.moveRec l).map fun m =>
              if slotState d (slotOf .move l) = .active ∧ m.phase ≠ .waitingGrant then { m with deadline := m.deadline - 1 }
              else m }
        ∧ t.page l.other = d.page l.other)
      ∧ (¬ begins → t.arb = { d.arb with holder := d.arb.holder.map counted } ∧ t.modem = d.modem
        ∧ (¬ occasion → t.page l = paged)
        ∧ (occasion → t.page l = { paged with counts := { paged.counts with missed := satInc paged.counts.missed } }))
      ∧ (begins → ∀ h : Holder, d.arb.holder = some h →
        t.page l = { paged with
          watch := some ⟨(d.params l).listenLead, (d.params l).listenLead + (d.params l).listenWindow, false⟩
          counts := { paged.counts with requested := satInc paged.counts.requested } }
        ∧ (h.phase = .active → h.release = .whenDone → t.arb.holder = some (counted h))
        ∧ (h.phase ≠ .active → t.arb.holder = some (counted h))
        ∧ (h.slot ≠ slotOf .paging l → (slotState t (slotOf .paging l)).waits = true)))
    ∧ (∀ (w : Watch) (h : Holder), (d.page l).watch = some w → w.toEnd = 0 → d.arb.holder = some h →
      h.slot ≠ slotOf .paging l → (slotState d (slotOf .paging l)).waits = true →
      Answers (.occasionEndMiss l) ⟨d, q⟩ fun t =>
        (t.page l).watch = none ∧ (t.page l).counts.missed = satInc (d.page l).counts.missed
        ∧ slotState t (slotOf .paging l) = .idle
        ∧ SameBlocks { d with paging := t.paging, arb := t.arb, modem := { d.modem with orderLane := t.modem.orderLane } } t
        ∧ t.page l.other = d.page l.other)
    ∧ Answers (.recentPageExpiry l) ⟨d, q⟩ fun t =>
        t.page l = { d.page l with recent := (d.page l).recent.filter fun r => 0 < r.left }
        ∧ t.page l.other = d.page l.other ∧ SameBlocks { d with paging := t.paging } t
        ∧ t.host = d.host ∧ t.sleep = d.sleep ∧ t.conds = d.conds

/-- GRANT_TIMEOUT, WINDOW_OVERRUN and SUSPEND_LIMIT of a slot that nothing waits behind and that is neither repeated nor standing:
a CANCEL carries its window number and its line, and the last event of W4 or W5 names that line (log entry 10) and the slot. The
slot stops holding the radio, and its owner acts: a failed MEASURE grant puts the measure position back, which the end of a window
leaves where it is; a BORROW brings the REPLY of its Radio Borrow, No Ready or Overrun; a failed SEARCH grant ends the search
without a candidate, with No Service once and the retry timer, and a SEARCH that outlived a stop is over; a failed PAGING grant
ends its watch with a missed occasion; a failed ACCESS grant is requested anew while the Hold still holds frames (R45, R49, R53,
R55, R62, R73, R74, R76, R80, R85, R86, R136). -/
def Obligations.WatchEndsTheWindow : Prop :=
  ∀ (d : Device) (q : List Instr) (h : Holder), d.inReset = false → d.arb.holder = some h →
    (d.slot h.slot).repeated = false → (d.slot h.slot).standing = false → NoneWaiting d →
    let l : LineId := slotCountLine h.slot
    let lane : List ModemFrame := pushDropOldest 4 d.modem.orderLane
      ⟨LineId.toField (slotLine h.slot), 0, 0, .order ⟨.cancel, h.window, 0, .none⟩⟩
    let raised (c : Cond) (t : Device) : Prop :=
      (t.cond c).on = true ∧ (t.cond c).events = satInc (d.cond c).events
      ∧ (t.cond c).last = some (LineId.toField (slotLine h.slot), h.slot.val)
    let ended (c : Cond) (x : Device) (t : Device) : Prop :=
      t.arb.holder = none ∧ (∀ i, slotState t i = .idle) ∧ raised c t
      ∧ SameBlocks { x with arb := t.arb, modem := { d.modem with orderLane := lane } } t
    let notReady : Prop := h.phase = .granted ∧ h.grantTimer = some 0
    let overrun (i : Instr) : Prop := i = .windowOverrun ∧ h.phase = .active ∧ h.release = .whenDone ∧ h.length + 2 ≤ h.count
      ∨ i = .suspendLimit ∧ h.phase = .yielding ∧ 2 ≤ h.count
    (slotClass h.slot = .measure →
      (notReady → Answers .grantTimeout ⟨d, q⟩ (ended .w4 (d.onMeasLine l fun m => { m with pos := m.prevPos })))
      ∧ ∀ i, overrun i → Answers i ⟨d, q⟩ (ended .w5 d))
    ∧ (∀ b, slotClass h.slot = .borrow → d.arb.borrow = some b → d.host.queue.length + 4 ≤ 48 →
      let answered (how : BorrowEnd) (t : Device) : Prop :=
        t.arb.borrow = none ∧ replyFrame b.tag 8 (.data (.borrow how)) ∈ t.host.queue
      (notReady → Answers .grantTimeout ⟨d, q⟩ fun t => ended .w4 d t ∧ answered .noReady t)
      ∧ ∀ i, overrun i → Answers i ⟨d, q⟩ fun t => ended .w5 d t ∧ answered .overrun t)
    ∧ (slotClass h.slot = .search → notReady →
      ((d.line l).staleSearch = true →
        Answers .grantTimeout ⟨d, q⟩ (ended .w4 (d.onLine l fun r => { r with staleSearch := false, found := [] })))
      ∧ ((d.line l).staleSearch = false → d.lineState l = .searching → d.host.queue.length + 4 ≤ 48 →
        Answers .grantTimeout ⟨d, q⟩ fun t =>
          ended .w4 (d.onLine l fun r => { r with
            noServiceSent := true, retry := some (1000 * r.params.searchInterval), found := []
            holdLost := if r.noServiceSent then r.holdLost else 0 }) t
          ∧ ((d.line l).noServiceSent = false → (d.line l).serving = none →
            ∃ n, (⟨LineId.toField (some l), .urgent, n, .notice ⟨0,
              .lineState false (.noService (d.line l).found.length (d.line l).holdLost)⟩⟩ : HostFrame) ∈ t.host.queue)))
    ∧ (∀ w, slotClass h.slot = .paging → notReady → (d.page l).watch = some w →
      Answers .grantTimeout ⟨d, q⟩ (ended .w4 (if w.granted then
          d.onPaging l fun p => { p with watch := none, counts := { p.counts with missed := satInc p.counts.missed } }
        else d)))
    ∧ (slotClass h.slot = .access → notReady →
      ((d.line l).hold = [] ∨ d.lineState l = .off ∨ d.lineState l = .stopping →
        Answers .grantTimeout ⟨d, q⟩ (ended .w4 d))
      ∧ ((d.line l).hold ≠ [] → d.lineState l = .camped ∨ d.lineState l = .connected →
        d.arb.mode ≠ .topOnly ∨ level d h.slot = 3 →
        let length : Byte := BitVec.ofNat 8 (d.params l).accessWindow
        Answers .grantTimeout ⟨d, q⟩ fun t =>
          t.arb.holder = some
            { slot := h.slot, phase := .granted, release := classRelease d h.slot, window := d.arb.nextWindow
              length := if length = 0 then 256 else length.toNat, grantTimer := grantMs d.arb.code, count := 0
              released := false }
          ∧ t.arb.nextWindow = d.arb.nextWindow + 1 ∧ raised .w4 t
          ∧ SameBlocks { d with
              arb := t.arb
              modem := { d.modem with
                orderLane := pushDropOldest 4 lane
                  ⟨LineId.toField (slotLine h.slot), 0, 0, .order ⟨.access, d.arb.nextWindow, length, .none⟩⟩ } } t))

/-- The slot that an arbitration chooses. The candidates are the Pending slots that the mode allows; one whose class is OnRequest
is set aside while another candidate, of release type WhenDone, has a level equal to or above its own. Some slot is chosen
whenever there is a candidate, and it is the first of the rest in the mode's order: Fixed by level and then slot number, Rotating
in circular order after the rotation pointer, Split the level-3 slots by number before the others in circular order, Top-only by
number (R67, R68, R69). -/
def Obligations.ArbitrationChoosesByTheMode : Prop :=
  ∀ d : Device,
    let cand (i : Fin 13) : Prop := (d.slot i).want = .pending ∧ (d.arb.mode = .topOnly → level d i = 3)
    let stays (i : Fin 13) : Prop := cand i
      ∧ (classRelease d i = .whenDone ∨ ∀ j, cand j → classRelease d j = .whenDone → level d j < level d i)
    let turn (i : Fin 13) : Nat := (i.val + 12 - d.arb.pointer.val) % 13
    ((∀ i, ¬ cand i) → chooseSlot d = none)
    ∧ ((∃ i, cand i) → ∃ i, chooseSlot d = some i)
    ∧ ∀ i, chooseSlot d = some i → stays i
      ∧ (d.arb.mode = .fixed → ∀ j, stays j → level d j < level d i ∨ level d j = level d i ∧ i ≤ j)
      ∧ (d.arb.mode = .rotating → ∀ j, stays j → turn i ≤ turn j)
      ∧ (d.arb.mode = .split → ∀ j, stays j →
        (level d i = 3 ∧ (level d j = 3 → i ≤ j)) ∨ (level d i ≠ 3 ∧ level d j ≠ 3 ∧ turn i ≤ turn j))
      ∧ (d.arb.mode = .topOnly → ∀ j, stays j → i ≤ j)

/-- What an owner's request does in each state of its slot, and what fairness makes of it: a fair slot with its served mark, about
to become Pending while another slot of its level is, is Deferred instead; a slot that becomes Pending while an OnRequest holder
is Active asks it to yield where its class is WhenDone, its level is not below the holder's and the mode allows it, and while a
holder is Granted it is noted for the READY. A repeated request merges. At a grant the served marks of the other slots of the
level are cleared, and Deferred slots whose level has no Pending slot left become Pending (R65, R70, R71, R72, R74). -/
def Obligations.FairnessAndYield : Prop :=
  ∀ (i : Fin 13) (d : Device),
    let other : Prop := ∃ k, k ≠ i ∧ (d.slot k).want = .pending ∧ level d k = level d i
    let deferred : Prop := (slotRec d i).fair = true ∧ (d.slot i).served = true ∧ other
    let t := requestSlot i d
    (∀ h : Holder, d.arb.holder = some h → slotState d i = .idle →
      let asked : Prop := h.phase = .active ∧ h.release = .onRequest ∧ classRelease d i = .whenDone
        ∧ level d h.slot ≤ level d i ∧ (d.arb.mode = .topOnly → level d i = 3)
      (∀ j, j ≠ i → t.slot j = d.slot j)
      ∧ SameBlocks { d with arb := t.arb, modem := t.modem } t ∧ t.host = d.host ∧ t.conds = d.conds
      ∧ (i ≠ 12 → t.sleep = d.sleep)
      ∧ (deferred → t.slot i = { d.slot i with want := .deferred } ∧ t.arb.holder = d.arb.holder ∧ t.modem = d.modem)
      ∧ (¬ deferred → t.slot i = { d.slot i with want := .pending, pended := (d.slot i).pended || h.phase = .granted })
      ∧ (¬ deferred → ¬ asked → t.arb.holder = d.arb.holder ∧ t.modem = d.modem)
      ∧ (¬ deferred → asked →
        t.arb.holder = some { h with phase := .yielding, count := 0 }
        ∧ t.modem = { d.modem with
            orderLane := pushDropOldest 4 d.modem.orderLane
              ⟨LineId.toField (slotLine h.slot), 0, 0, .order ⟨.suspend, h.window, 0, .none⟩⟩ }))
    ∧ (slotState d i = .pending ∨ slotState d i = .deferred → t = d)
    ∧ ((slotState d i).holds = true → t = d.onSlot i fun s => { s with repeated := true })
    ∧ ∀ o : Order, d.arb.holder = none → (d.slot i).want = .pending →
      let g := grant i o d
      let freed (j : Fin 13) : Bool := (d.slot j).want = .deferred
        ∧ ∀ k, k ≠ i → k ≠ j → (d.slot k).want = .pending → level d k ≠ level d j
      g.arb.holder = some { slot := i, phase := .granted, release := classRelease d i, window := d.arb.nextWindow
                            length := if o.length = 0 then 256 else o.length.toNat, grantTimer := grantMs d.arb.code
                            count := 0, released := false }
      ∧ g.arb.nextWindow = d.arb.nextWindow + 1 ∧ g.slot i = { d.slot i with want := .idle, pended := false }
      ∧ (∀ j, j ≠ i → g.slot j = { d.slot j with
          want := if freed j then .pending else (d.slot j).want, pended := freed j
          served := if level d j = level d i then false else (d.slot j).served })
      ∧ g.modem = { d.modem with
          orderLane := pushDropOldest 4 d.modem.orderLane
            ⟨LineId.toField (slotLine i), 0, 0, .order ⟨o.name, d.arb.nextWindow, o.length, o.body⟩⟩ }
      ∧ SameBlocks { d with arb := g.arb, modem := g.modem } g ∧ g.host = d.host ∧ g.conds = d.conds

/-- What an owner's release does in each state of its slot, and what the end of a hold leaves: a waiting slot goes to Idle, and
the Deferred slots that waited for it become Pending; a Granted OnRequest holder is asked to yield at its READY, and an Active one
at once; every release clears the repeat mark and the standing. A slot that stops holding the radio takes its served mark if it
had its READY, and goes back to Pending, or to Deferred by fairness, if it is standing or was repeated (R65, R66, R70, R74). -/
def Obligations.ReleaseAndEndOfHold : Prop :=
  ∀ (i : Fin 13) (d : Device) (h : Holder), d.arb.holder = some h →
    let t := releaseSlot i d
    let unmarked : Device := d.onSlot i fun s => { s with repeated := false, standing := false }
    (slotState d i = .idle → t = unmarked)
    ∧ (slotState d i = .pending ∨ slotState d i = .deferred →
      t.slot i = { d.slot i with want := .idle, repeated := false, standing := false }
      ∧ ∀ j, j ≠ i → (t.slot j).want =
        if (d.slot j).want = .deferred ∧ ∀ k, k ≠ i → k ≠ j → (d.slot k).want = .pending → level d k ≠ level d j
        then .pending else (d.slot j).want)
    ∧ (h.slot = i → h.release = .whenDone → h.released = false → t = unmarked)
    ∧ (h.slot = i → h.release = .onRequest →
      (h.phase = .granted →
        t = unmarked.onArb fun a => { a with holder := some { h with released := true } })
      ∧ (h.phase = .yielding → t = unmarked)
      ∧ (h.phase = .active →
        t = { unmarked with
          arb := { unmarked.arb with holder := some { h with phase := .yielding, count := 0 } }
          modem := { d.modem with
            orderLane := pushDropOldest 4 d.modem.orderLane
              ⟨LineId.toField (slotLine i), 0, 0, .order ⟨.suspend, h.window, 0, .none⟩⟩ } }))
    ∧ (h.slot = i →
      let e := endHold h d
      let served : Bool := (d.slot i).served || (slotRec d i).fair && h.phase ≠ .granted
      let again : Bool := (d.slot i).standing || (d.slot i).repeated
      let other : Prop := ∃ k, k ≠ i ∧ (d.slot k).want = .pending ∧ level d k = level d i
      e.arb.holder = none ∧ (∀ j, j ≠ i → e.slot j = d.slot j)
      ∧ (again = false → e.slot i = { d.slot i with want := .idle, repeated := false, served := served })
      ∧ (again = true → (slotRec d i).fair = true ∧ served = true ∧ other →
        e.slot i = { d.slot i with want := .deferred, repeated := false, served := served })
      ∧ (again = true → ¬ ((slotRec d i).fair = true ∧ served = true ∧ other) →
        e.slot i = { d.slot i with want := .pending, repeated := false, served := served }))

/-! ### Lines (chapter 3) -/

/-- LINE_START on a line that is Off, with room for the SLEEP-OFFER that an idle delay of 0 brings, enters Searching with its loss
cause, deferred stop and found list cleared, and is answered Done. It makes its first search request from search position 23: the
channels of the entries it owns that are Listed, Measured or Stale, in index order, each once and 8 at most, with the last entry
whose channel was added as the search position and No Service not sent. The SEARCH slot is requested: it waits behind another
holder, joins an old window of its own as a repeat (log entry 17), and on a free radio that the mode allows it is Granted with the
SEARCH order. With no channel there is no request: No Service is sent, and the search retry timer starts. LINE_START on a line in
any other state changes nothing and is answered Refused, reason LineActive. LINE_STOP is answered Done whatever the line's state:
it changes nothing on a line that is Off or Stopping, is deferred on a Moving line, and otherwise takes effect at once: a
Connected line enters Stopping, its records cleared toward the network, and any other Off, with the serving entry, the timers, the
overrides, the deferred stop, the loss cause and a reselection in flight given up, the waiting slots withdrawn but TRAFFIC at
Stopping, the Hold discarded, but for the clearing frames that Stopping keeps and sends, and the line taken out of every neighbour
entry, of which one left without an owner becomes Free; the line's Collecting records are delivered in list order as Partial texts
with cause Line Stopped, and are Free (a Complete one waits on), and a line that enters Off then sends its Off notice. Either
command naming neither line changes nothing and is Refused, reason Range (R43, R45, R49, R53, R54, R55, R60, R65, R71, R97, R102,
R106, R125). -/
def Obligations.LineStartAndStop : Prop :=
  ∀ (d : Device) (q : List Instr) (h : CmdHead), Commandable d → h.index = 0 →
    (∀ l, targetLine h.target = some l → d.lineState l = .off →
      d.sleep.settings.idleDelay ≠ 0 ∨ d.host.queue.length + 3 ≤ 48 →
      let i : Fin 13 := slotOf .search l
      let owned : List (Fin 24) := (indexes 24).filter fun k => (d.entry k).own.get l
        && ((d.entry k).state == .listed || (d.entry k).state == .measured || (d.entry k).state == .stale)
      let channels : List Nat := (owned.map fun k => (d.entry k).cell.channel).eraseDups.take 8
      Answers (.lineStart h (.fits ())) ⟨d, q⟩ fun t =>
        t.lineState l = .searching ∧ (t.line l).lossCause = none ∧ (t.line l).deferredStop = false
        ∧ (t.line l).found = [] ∧ (t.line l).serving = none ∧ t.lineState l.other = d.lineState l.other
        ∧ t.calls = d.calls ∧ t.text = d.text ∧ t.disp = d.disp ∧ Replied h 6 .done t
        ∧ ((slotState d i).waits = false →
          (owned = [] →
            (t.line l).noServiceSent = true ∧ (t.line l).retry = some (1000 * (d.params l).searchInterval)
            ∧ (t.line l).searchPos = 23 ∧ (t.slot i).repeated = (d.slot i).repeated
            ∧ ∃ n, (⟨LineId.toField (some l), .urgent, n,
              .notice ⟨0, .lineState false (.noService 0 (d.line l).hold.length)⟩⟩ : HostFrame) ∈ t.host.queue)
          ∧ (owned ≠ [] →
            (t.line l).searchList = channels ∧ (t.line l).noServiceSent = false ∧ (t.line l).retry = (d.line l).retry
            ∧ (t.line l).searchPos ∈ owned ∧ channels.getLast? = some (d.entry (t.line l).searchPos).cell.channel
            ∧ (∀ k ∈ owned, (d.entry k).cell.channel = (d.entry (t.line l).searchPos).cell.channel →
              (t.line l).searchPos ≤ k)
            ∧ (∀ x, d.arb.holder = some x →
              (x.slot ≠ i → (slotState t i).waits = true) ∧ (x.slot = i → (t.slot i).repeated = true))
            ∧ (d.arb.holder = none → NoneWaiting d →
              let length : Byte := BitVec.ofNat 8 (d.params l).searchWindow
              (d.arb.mode = .topOnly ∧ level d i ≠ 3 → slotState t i = .pending ∧ t.arb.holder = none)
              ∧ (d.arb.mode ≠ .topOnly ∨ level d i = 3 →
                t.arb.holder = some
                  { slot := i, phase := .granted, release := classRelease d i, window := d.arb.nextWindow
                    length := if length = 0 then 256 else length.toNat, grantTimer := grantMs d.arb.code, count := 0
                    released := false }
                ∧ t.arb.nextWindow = d.arb.nextWindow + 1
                ∧ t.modem.orderLane = pushDropOldest 4 d.modem.orderLane
                  ⟨LineId.toField (some l), 0, 0, .order ⟨.search, d.arb.nextWindow, length, .channels channels⟩⟩)))))
    ∧ (∀ l, targetLine h.target = some l → d.lineState l ≠ .off →
      Answers (.lineStart h (.fits ())) ⟨d, q⟩ fun t => OnlyAnswered d t ∧ Replied h 6 (.refused .lineActive) t)
    ∧ (targetLine h.target = none →
      (Answers (.lineStart h (.fits ())) ⟨d, q⟩ fun t => OnlyAnswered d t ∧ Replied h 6 (.refused .range) t)
      ∧ Answers (.lineStop h (.fits ())) ⟨d, q⟩ fun t => OnlyAnswered d t ∧ Replied h 7 (.refused .range) t)
    ∧ ∀ l, targetLine h.target = some l →
      (d.lineState l = .off ∨ d.lineState l = .stopping →
        Answers (.lineStop h (.fits ())) ⟨d, q⟩ fun t => OnlyAnswered d t ∧ Replied h 7 .done t)
      ∧ (d.lineState l = .moving →
        Answers (.lineStop h (.fits ())) ⟨d, q⟩ fun t =>
          t.line l = { d.line l with deferredStop := true } ∧ t.line l.other = d.line l.other
          ∧ OnlyAnswered { d with lines := t.lines } t ∧ Replied h 7 .done t)
      ∧ (d.lineState l = .searching ∨ d.lineState l = .camped ∨ d.lineState l = .connected ∨ d.lineState l = .lost →
        let stopping : Prop := d.lineState l = .connected
        let kept : List ModemFrame := (d.line l).hold.filter fun f => match f.payload with
          | .forwarded g => g.fields.mtype == .callClear || g.fields.mtype == .clearDone
          | _ => false
        let room : Nat := 8 - d.modem.hostLane.length
        let texts : List (Fin 8) := d.text.order.filter fun r => match d.text? r with
          | some x => x.line == l && x.state == .collecting
          | none => false
        let partialText (x : TextRec) (n : Byte) : HostFrame := ⟨LineId.toField (some l), .urgent, n, .notice ⟨x.sender.toNat,
          .text .partialText .lineStopped x.total x.parts.length
            (((List.range x.total).map (· + 1)).filter fun k => ¬ k ∈ x.parts.map Prod.fst)
            (min (x.ageMs / 1000) 65535)
            (x.parts.flatMap fun p => (d.text.pool.get p.2).elim [] PoolSlot.bytes)⟩⟩
        let off (n : Byte) : HostFrame := ⟨LineId.toField (some l), .normal, n,
          .notice ⟨0, .lineState false (.off (d.line l).hold.length)⟩⟩
        Answers (.lineStop h (.fits ())) ⟨d, q⟩ fun t =>
          Replied h 7 .done t ∧ t.lineState l.other = d.lineState l.other ∧ t.disp = d.disp
          ∧ t.lineState l = (if d.lineState l = .connected then .stopping else .off) ∧ (t.line l).serving = none
          ∧ (t.line l).retry = none ∧ (t.line l).radioLink = .stopped ∧ (t.line l).overrides = none
          ∧ (t.line l).deferredStop = false ∧ (t.line l).lossCause = none ∧ (t.page l).state = .off
          ∧ (t.measLine l).round = none ∧ t.reselecting l = false
          ∧ (¬ stopping → (t.line l).hold = [] ∧ t.modem.hostLane = d.modem.hostLane ∧ t.calls = d.calls)
          ∧ (stopping → (t.line l).hold = kept.drop room ∧ t.modem.hostLane = d.modem.hostLane ++ kept.take room
            ∧ ∀ k r, d.call k = some r →
              if r.line = l ∧ r.state ≠ .clearing then
                ∃ u, t.call k = some u ∧ u.state = .clearing ∧ u.clearing = some (.stopped, .device) ∧ u.line = l
                  ∧ u.ref = r.ref
              else t.call k = some r)
          ∧ (∀ i, slotLine i = some l → (slotState t i).waits = true → stopping ∧ i = slotOf .traffic l)
          ∧ (d.PoolFits → d.host.queue.length + 16 ≤ 48 →
            (∀ r, t.text? r = if r ∈ texts then none else d.text? r)
            ∧ t.text.order = d.text.order.filter (fun r => decide (r ∉ texts))
            ∧ (∀ k, t.text.pool.get k = (d.text.pool.get k).filter fun p => decide (p.owner ∉ texts))
            ∧ t.text.counts = d.text.counts.upd l (fun c => { c with partials := satInc^[texts.length] c.partials })
            ∧ ∃ n : Byte,
              let notices : List HostFrame := texts.zipIdx.filterMap fun y =>
                (d.text? y.1).map fun x => partialText x (n + BitVec.ofNat 8 y.2)
              notices.Sublist t.host.queue
              ∧ (¬ stopping → (notices ++ [off (n + BitVec.ofNat 8 texts.length)]).Sublist t.host.queue))
          ∧ ∀ i, (t.entry i).own = (d.entry i).own.upd l (fun _ => false)
            ∧ ((d.entry i).own.get l.other = false → (t.entry i).state = .free)
            ∧ ((d.entry i).own.get l.other = true → (t.entry i).state = (d.entry i).state
              ∧ (t.entry i).cell = (d.entry i).cell ∧ (t.entry i).filter = (d.entry i).filter))

/-- RADIO_LINK_EXPIRY of a Connected line with F4's action Report, no move in flight and no deferred stop: the line is
Lost with cause Sync, without its serving entry, its Hold and its calls, and F4 is latched (R57, R58, R125). -/
def Obligations.RadioLinkExpiryLosesTheLine : Prop :=
  ∀ (d : Device) (q : List Instr) (l : LineId), d.inReset = false → d.lineState l = .connected →
    (d.line l).radioLink = .running 0 → d.moveRec l = none → (d.cond .f4).action = .report →
    (d.line l).deferredStop = false →
    Answers (.radioLinkExpiry l) ⟨d, q⟩ fun t =>
      t.lineState l = .lost ∧ (t.line l).lossCause = some .sync ∧ (t.line l).serving = none
      ∧ (t.line l).radioLink = .stopped ∧ (t.line l).hold = [] ∧ (t.line l).overrides = none
      ∧ (∀ k r, t.call k = some r → r.line ≠ l) ∧ (t.cond .f4).on = true
      ∧ (t.cond .f4).events = satInc (d.cond .f4).events ∧ t.lineState l.other = d.lineState l.other ∧ t.disp = d.disp

/-- A host SIGNAL frame taken by the state of its line. Connected, Stopping for the two clearing types, and Camped in an ACCESS
window with an empty Hold: the Host lane, behind an empty Hold, and the Hold where that lane is full or frames wait. Moving, and
Camped otherwise: the Hold, on a Camped line with the ACCESS slot requested where it is Idle. A full Hold discards the frame with
a Hold Full notice. Off, Searching, Lost, and Stopping for any other type: a Refused notice, and no lane and no Hold takes the
frame. The Hold is emptied oldest first, as far as the Host lane has room (R13, R52, R53). -/
def Obligations.UplinkFollowsTheLineState : Prop :=
  ∀ (l : LineId) (f : LinkFrame) (d : Device),
    let g : ModemFrame := ⟨f.line, f.cls, f.tag, .forwarded f⟩
    let sent : Device := { d with modem := { d.modem with hostLane := d.modem.hostLane ++ [g] } }
    let held : Device := d.onLine l fun r => { r with hold := r.hold ++ [g] }
    let told (x : LineNotice) : Device :=
      notify (some l) ((d.line l).serving.elim 0 Fin.val) (.lineState (d.line l).serving.isSome x) d
    let clearing : Prop := f.fields.mtype = .callClear ∨ f.fields.mtype = .clearDone
    let inWindow : Prop := slotState d (slotOf .access l) = .active ∧ (d.line l).hold = []
    (d.lineState l = .connected ∨ d.lineState l = .stopping ∧ clearing ∨ d.lineState l = .camped ∧ inWindow →
      ((d.line l).hold = [] → d.modem.hostLane.length < 8 → uplink l f d = sent)
      ∧ ((d.line l).hold ≠ [] ∨ 8 ≤ d.modem.hostLane.length → (d.line l).hold.length < 4 → uplink l f d = held)
      ∧ (4 ≤ (d.line l).hold.length → uplink l f d = told (.holdFull f.fields.mtype f.tag)))
    ∧ (d.lineState l = .moving ∨ d.lineState l = .camped ∧ ¬ inWindow →
      (d.lineState l = .camped → (d.line l).hold.length < 4 → slotState d (slotOf .access l) = .idle →
        uplink l f d = requestSlot (slotOf .access l) held)
      ∧ (d.lineState l = .moving ∨ slotState d (slotOf .access l) ≠ .idle → (d.line l).hold.length < 4 →
        uplink l f d = held)
      ∧ (4 ≤ (d.line l).hold.length → uplink l f d = told (.holdFull f.fields.mtype f.tag)))
    ∧ (d.lineState l = .off ∨ d.lineState l = .searching ∨ d.lineState l = .lost ∨ d.lineState l = .stopping ∧ ¬ clearing →
      uplink l f d = told (.refused (d.lineState l) f.fields.mtype f.tag) ∧ SameBlocks d (uplink l f d))
    ∧ ((∀ x ∈ (d.line l).hold, ∃ y, x.payload = .forwarded y) →
      let k := 8 - d.modem.hostLane.length
      emptyHold l d = { d with
        modem := { d.modem with hostLane := d.modem.hostLane ++ (d.line l).hold.take k }
        lines := d.lines.upd l fun r => { r with hold := r.hold.drop k } })

/-- A CELL-INFO handed to the Line Controller. One of Line 0 is discarded, and one without its fields raises W1 (log entries 10
and 11). Off, Lost, Stopping: discarded. Searching: in the Active SEARCH window a listed cell has its fields replaced, and a new
one joins the found list of up to 8 with the entry that holds the cell, then owned by the line too, or else the lowest Free one,
made Listed for it, or none; the counter it keeps is that at which dispatch hands the frame over (log entry 45); outside the
window it is discarded. Connected, Moving: the serving cell's is a serving update, another's is discarded. Camped: the serving
cell's is a serving update, on which the schedule is decided again where the cycle changes; a newly set barred flag starts a
reselection to the best candidate, or takes the line to Searching where there is none, but nothing while one is in flight; another
cell's is discarded with no move in flight (R42, R46, R50, R130, R134, R158, R160). -/
def Obligations.CellInfoFollowsTheLineState : Prop :=
  ∀ (f : LinkFrame) (d : Device),
    (LineId.ofField f.line = none → cellInfoMsg f d = d)
    ∧ ∀ l, LineId.ofField f.line = some l →
      (f.fields.cell = none ∨ f.fields.frameNo = none ∨ f.fields.barred = none ∨ f.fields.cycle = none
        ∨ f.fields.qhyst = none → cellInfoMsg f d = raise .w1 f.line 0 d)
      ∧ ∀ c n b y g, f.fields.cell = some c → f.fields.frameNo = some n → f.fields.barred = some b →
        f.fields.cycle = some y → f.fields.qhyst = some g →
        let t := cellInfoMsg f d
        let inWindow : Prop := slotState d (slotOf .search l) = .active
        let listed : Prop := ∃ x ∈ (d.line l).found, x.cell = c
        let joined (i : Option (Fin 24)) (x : Device) : Device := x.onLine l fun r =>
          { r with found := (d.line l).found ++ [⟨c, i, b, y, g, n, (d.line l).frame, none⟩] }
        let holds (i : Fin 24) : Prop := (d.entry i).state ≠ .free ∧ (d.entry i).cell = c
        let free (i : Fin 24) : Prop := (d.entry i).state = .free ∧ ∀ k, d.meas.lock = some k → k.entry ≠ i
        let cycle : Nat := min (d.params l).requestedCycle y
        let serving : LineRec := { d.line l with frame := n, qhyst := some g, servingBarred := b, cycle := some cycle }
        let updated : Device := d.onLine l fun _ => serving
        let newlyBarred : Prop := b = true ∧ (d.line l).servingBarred = false ∧ d.reselecting l = false
        (d.lineState l = .off ∨ d.lineState l = .lost ∨ d.lineState l = .stopping → t = d)
        ∧ (d.lineState l = .searching →
          (¬ inWindow → t = d)
          ∧ (inWindow → listed → t = d.onLine l fun r => { r with found := r.found.map fun x =>
              if x.cell = c then { x with barred := b, cycle := y, qhyst := g, frameNo := n, counter := r.frame } else x })
          ∧ (inWindow → ¬ listed → 8 ≤ (d.line l).found.length → t = d)
          ∧ (inWindow → ¬ listed → (d.line l).found.length < 8 →
            (∀ i, holds i → (∀ j, j < i → ¬ holds j) →
              t = joined (some i) (d.onEntry i fun e => { e with own := e.own.upd l fun _ => true }))
            ∧ (∀ i, (∀ j, ¬ holds j) → free i → (∀ j, j < i → ¬ free j) →
              t = joined (some i) (d.onEntry i fun _ =>
                { cell := c, own := ⟨l == .a, l == .b⟩, ocn := ⟨0, 0⟩, qoff := 0, inIdle := true, inCall := true
                  state := .listed, servingFor := ⟨false, false⟩, filter := none, level := none, quality := none
                  misses := 0, lastFrame := none, penalty := none, bar := none
                  trig := ⟨⟨0, false, 0⟩, ⟨0, false, 0⟩⟩ }))
            ∧ ((∀ j, ¬ holds j) → (∀ j, ¬ free j) → t = joined none d)))
        ∧ (d.lineState l = .connected ∨ d.lineState l = .moving →
          t = if d.servingCell l = some c then updated else d)
        ∧ (d.lineState l = .camped →
          (d.servingCell l ≠ some c → d.moveRec l = none → t = d)
          ∧ (d.servingCell l = some c → ¬ newlyBarred → (d.line l).cycle = some cycle ∨ d.reselecting l = true → t = updated)
          ∧ (d.servingCell l = some c → ¬ newlyBarred → (d.line l).cycle ≠ some cycle → d.reselecting l = false →
            t = { updated with meas := { d.meas with lines := t.meas.lines } }
            ∧ t.measLine l.other = d.measLine l.other
            ∧ t.measLine l = { d.measLine l with sched := (t.measLine l).sched, timer := (t.measLine l).timer }
            ∧ ((t.measLine l).sched = .cycleAligned ↔ (d.page l).state = .watching
              ∧ ((d.params l).idleMode = .cycleAligned
                ∨ (d.params l).idleMode = .mixed ∧ cycle ≤ (d.params l).mixedThreshold))
            ∧ ((t.measLine l).sched ≠ .cycleAligned → (t.measLine l).sched = .interval
              ∧ (t.measLine l).timer ≠ .stopped))
          ∧ (d.servingCell l = some c → newlyBarred →
            (bestCandidate l none d = none →
              t.lineState l = .searching ∧ (t.line l).serving = none ∧ (t.line l).frame = n ∧ (t.page l).state = .off)
            ∧ ∀ i v, bestCandidate l none d = some (i, v) →
              t.line l = serving ∧ t.line l.other = d.line l.other ∧ (t.page l).state = .suspended
              ∧ ∃ m, t.moveRec l = some m ∧ m.kind = .reselect ∧ m.trigger = .barredServing ∧ m.targetEntry = i
                ∧ m.target = (d.entry i).cell ∧ m.oldCell = c ∧ m.deadline = (d.params l).reselectDeadline))

/-- A search that ends: with no item on the found list that is clear of bars, has a level and an entry that still is a
candidate's, the line stays Searching and its retry timer starts. Otherwise the candidate of the highest level, of equal ones that
with the lowest entry, is chosen, wherever it stands on the list, and the line camps on its cell: the serving entry, the smaller
of the two paging cycles, the Frame Counter carried on by the boundaries since the item's arrival, paging Watching where a valid
identity stands, every run count of the line cleared, a round of the line's measurement set begun with no member marked, and the
schedule decided: cycle-aligned where paging is Watching and the idle mode is Cycle-aligned, or Mixed with a cycle up to the
threshold, and otherwise by intervals, the timer running from the whole interval. That the count of discarded Hold frames is
cleared there, and by the No Service notice that reports it, is log entry 16 (R47, R48, R49, R83, R132, R133, R134, R145). -/
def Obligations.SearchEndsInCampedOrRetry : Prop :=
  ∀ (l : LineId) (d : Device), d.lineState l = .searching →
    let fits (x : FoundCell) (i : Fin 24) : Prop := x.barred = false ∧ x.entry = some i ∧ x.level ≠ none
      ∧ (d.entry i).cell = x.cell ∧ (d.entry i).own.get l = true
      ∧ ((d.entry i).state = .listed ∨ (d.entry i).state = .measured ∨ (d.entry i).state = .stale)
    ((∀ x ∈ (d.line l).found, ∀ i, ¬ fits x i) →
      let t := searchEnd l d
      t.line l = { d.line l with
        noServiceSent := true, found := [], retry := some (1000 * (d.params l).searchInterval)
        holdLost := if (d.line l).noServiceSent then (d.line l).holdLost else 0 }
      ∧ t.line l.other = d.line l.other ∧ SameBlocks { d with lines := t.lines } t
      ∧ ((d.line l).noServiceSent = true → t.host = d.host))
    ∧ ∀ before x after i n, (d.line l).found = before ++ x :: after → fits x i → x.level = some n →
      (∀ y ∈ before ++ after, ∀ j m, fits y j → y.level = some m → m < n ∨ m = n ∧ i < j) →
      let t := searchEnd l d
      let c := min (d.params l).requestedCycle x.cycle
      t.line l = { d.line l with
        state := .camped, serving := some i, servingBarred := false, qhyst := some x.qhyst, cycle := some c
        frame := x.frameNo + ((d.line l).frame - x.counter), campedRounds := 0, retry := none, lossCause := none
        found := [], holdLost := 0 }
      ∧ t.line l.other = d.line l.other
      ∧ ((t.page l).state = .watching ↔ ∃ j, ((d.page l).identities.get j).valid = true)
      ∧ (∀ j, (t.entry j).servingFor.get l = (if j = i then true else (d.entry j).servingFor.get l))
      ∧ t.measLine l = { d.measLine l with
          round := some ((measSet l t).map fun j => (j, false)), sched := (t.measLine l).sched
          timer := (t.measLine l).timer }
      ∧ (t.measLine l.other = d.measLine l.other ∧ ∀ j, ((t.entry j).trig.get l).run = 0)
      ∧ (d.reselecting l = false →
        if (t.page l).state = .watching
          ∧ ((d.params l).idleMode = .cycleAligned ∨ (d.params l).idleMode = .mixed ∧ c ≤ (d.params l).mixedThreshold) then
          (t.measLine l).sched = .cycleAligned ∧ (t.measLine l).timer = .stopped
        else (t.measLine l).sched = .interval ∧ (t.measLine l).timer = .running (d.params l).intervalM)
      ∧ t.calls = d.calls ∧ t.text = d.text ∧ t.move = d.move ∧ t.arb = d.arb ∧ t.modem = d.modem ∧ t.disp = d.disp

/-! ### Paging (chapter 5) -/

/-- A PAGE handed to the Paging Unit. A payload without a cell, a frame number or 1 to 8 records raises W1; one of Line 0, or from
a cell that does not serve its line, is discarded; one from the serving cell sets the Frame Counter, and a Camped line whose
paging is not Off takes its records in order (that the form is tested before the Line, and the event's line, are log entries 10
and 11). A record of another domain, or that no valid identity equals, is passed over; one that a Recent Page List item absorbs is
counted; any other joins that list and is acted on by its domain and the other line's state (R42, R88, R89, R91, R92, R94). -/
def Obligations.PagesFollowTheTable : Prop :=
  (∀ (f : LinkFrame) (d : Device),
    (f.fields.cell = none ∨ f.fields.frameNo = none ∨ f.fields.records = none ∨ f.fields.records = some []
      ∨ (∃ rs, f.fields.records = some rs ∧ 8 < rs.length) → pageMsg f d = raise .w1 f.line 0 d)
    ∧ ∀ c n rs, f.fields.cell = some c → f.fields.frameNo = some n → f.fields.records = some rs → rs ≠ [] →
      rs.length ≤ 8 →
      (LineId.ofField f.line = none → pageMsg f d = d)
      ∧ ∀ l, LineId.ofField f.line = some l →
        let x : Device := d.onLine l fun r => { r with frame := n }
        (d.servingCell l ≠ some c → pageMsg f d = d)
        ∧ (d.servingCell l = some c → (d.lineState l ≠ .camped ∨ (d.page l).state = .off) → pageMsg f d = x)
        ∧ (d.servingCell l = some c → d.lineState l = .camped → (d.page l).state ≠ .off →
          pageMsg f d = rs.foldl (takeRecord l c n) x))
  ∧ ∀ (l : LineId) (c : Cell) (n : FrameNo) (r : PageRecord) (d : Device),
    let t := takeRecord l c n d r
    let equal (i : Fin 4) : Prop := ((d.page l).identities.get i).valid = true
      ∧ ((d.page l).identities.get i).value = r.identity
    let seen : Prop := ∃ y ∈ (d.page l).recent, 0 < y.left ∧ y.identity = r.identity ∧ y.domain = r.domain
    let kept (o : PageOutcome) : Device := joinRecent l r.identity r.domain o d
    ((∃ k, r.domain = .other k) → t = d)
    ∧ ((∀ i, ¬ equal i) → t = d)
    ∧ ∀ i, equal i → (∀ j, j < i → ¬ equal j) →
      (seen → (∀ k, r.domain ≠ .other k) →
        t = d.onPaging l fun p => { p with counts := { p.counts with absorbed := satInc p.counts.absorbed } })
      ∧ (¬ seen → r.domain = .service → t = notify (some l) i.val (.servicePage r.identity c n) (kept .service))
      ∧ (¬ seen → r.domain = .call → d.carriesCall l.other = true →
        t = notify (some l) i.val
          (.crossPage .callPage r.identity (d.lineState l.other) ((d.servingCell l).getD ⟨0, 0⟩) false)
          ((kept .cross).onPaging l fun p =>
            { p with counts := { p.counts with crossReported := satInc p.counts.crossReported } }))
      ∧ (¬ seen → (r.domain = .text ∨ r.domain = .call ∧ d.carriesCall l.other = false) → t = answerPage l r c n d)

/-- A PAGE-ANSWER is counted and its item joins the Recent Page List. In the line's ACCESS window with an empty Hold it goes at
once to the Device lane; otherwise it joins the Hold, and the ACCESS slot is requested where it is Idle. One that finds the Hold
full, or the Device lane full when it goes there at once (log entry 48), is lost: its item leaves again, and the answers lost are
counted. The Recent Page List keeps up to 4 items that have not run out, and a full list gives up the first of the smallest hold
count (R90, R94). -/
def Obligations.PageAnswersAndRecentPages : Prop :=
  ∀ (l : LineId) (r : PageRecord) (c : Cell) (n : FrameNo) (d : Device),
    let live : List RecentPage := (d.page l).recent.filter fun y => 0 < y.left
    let item (o : PageOutcome) : RecentPage := ⟨r.identity, r.domain, o, 2 * (d.line l).cycle.getD 0⟩
    let kept (o : PageOutcome) : Device := joinRecent l r.identity r.domain o d
    let answered : Device := (kept .answered).onPaging l fun p =>
      { p with counts := { p.counts with answered := satInc p.counts.answered } }
    let lost : Device := answered.onPaging l fun p =>
      { p with
        recent := p.recent.filter fun y => ¬ (y.identity = r.identity ∧ y.domain = r.domain ∧ y.outcome = .answered)
        counts := { p.counts with answersLost := satInc p.counts.answersLost } }
    let g : ModemFrame := ⟨LineId.toField (some l), 0, 255, .pageAnswer r.identity r.domain c n⟩
    let held : Device := answered.onLine l fun x => { x with hold := x.hold ++ [g] }
    let inWindow : Prop := slotState d (slotOf .access l) = .active ∧ (d.line l).hold = []
    (inWindow → d.modem.deviceLane.length < 8 →
      answerPage l r c n d
        = { answered with modem := { d.modem with deviceLane := d.modem.deviceLane ++ [g] } })
    ∧ (inWindow ∧ 8 ≤ d.modem.deviceLane.length ∨ 4 ≤ (d.line l).hold.length → answerPage l r c n d = lost)
    ∧ (¬ inWindow → (d.line l).hold.length < 4 →
      answerPage l r c n d
        = if slotState d (slotOf .access l) = .idle then requestSlot (slotOf .access l) held else held)
    ∧ ∀ o, (kept o).page l.other = d.page l.other ∧ kept o = { d with paging := (kept o).paging }
      ∧ (kept o).page l = { d.page l with recent := ((kept o).page l).recent }
      ∧ (live.length < 4 → ((kept o).page l).recent = live ++ [item o])
      ∧ ∀ before y after, 4 ≤ live.length → live = before ++ y :: after → (∀ z ∈ live, y.left ≤ z.left) →
        (∀ z ∈ before, y.left < z.left) → ((kept o).page l).recent = before ++ after ++ [item o]

/-! ### Texts (chapter 6) -/

/-- A TEXT-PART handed to the Text Assembly Unit. A payload without its fields raises W1 (its line, and that it is tested before
the Line, are log entries 10 and 11); Line 0 is discarded, and a line without service is counted; a part out of range, or whose
total differs from its record's, draws TEXT-NACK Invalid; a part already in hand draws TEXT-ACK; one that finds no free slot, or
no Free record for a new pair, draws TEXT-NACK Memory Full. Any other part is stored in the lowest free slot of its record, or of
the lowest Free record, made for it with the assembly timer at the line's timeout, and draws TEXT-ACK; a record that then holds
every part is Complete and offers its Whole text. An answer that finds the Device lane full is counted as lost (R98, R99, R100,
R101, R103). -/
def Obligations.TextPartsAreTakenAndAnswered : Prop :=
  ∀ (f : LinkFrame) (d : Device),
    (f.fields.sender = none ∨ f.fields.total = none ∨ f.fields.part = none ∨ f.fields.text = none →
      textPart f d = raise .w1 f.line 0 d)
    ∧ ∀ s m n bytes, f.fields.sender = some s → f.fields.total = some m → f.fields.part = some n →
      f.fields.text = some bytes →
      (LineId.ofField f.line = none → textPart f d = d)
      ∧ ∀ l, LineId.ofField f.line = some l →
        let count (g : TextCounts → TextCounts) (x : Device) : Device :=
          { x with text := { x.text with counts := x.text.counts.upd l g } }
        let sendAnswer (p : ModemPayload) (x : Device) : Device :=
          if x.modem.deviceLane.length < 8 then
            { x with modem := { x.modem with deviceLane := x.modem.deviceLane ++ [⟨LineId.toField (some l), 0, 255, p⟩] } }
          else count (fun z => { z with answersLost := satInc z.answersLost }) x
        let invalid : Device := sendAnswer (.textNack s n .invalid)
          (count (fun z => { z with nacksInvalid := satInc z.nacksInvalid }) d)
        let full : Device := sendAnswer (.textNack s n .memoryFull)
          (count (fun z => { z with nacksFull := satInc z.nacksFull }) d)
        let served : Prop := d.lineState l = .camped ∨ d.lineState l = .connected ∨ d.lineState l = .moving
        let inRange : Prop := 1 ≤ n ∧ n ≤ m ∧ m ≤ 16 ∧ 1 ≤ bytes.length ∧ bytes.length ≤ 160
        let stored (r : Fin 8) (k : Fin 48) (x : TextRec) (order : List (Fin 8)) : Prop :=
          let parts := insertPart (n, k) x.parts
          let whole : Prop := ∀ j, 1 ≤ j → j ≤ m → j ∈ parts.map Prod.fst
          let put (y : TextRec) : Device := sendAnswer (.textAck s n)
            (count (fun z => { z with stored := satInc z.stored })
              { d with
                text := { d.text with
                  order := order, recs := Tab.upd d.text.recs r fun _ => some y
                  pool := Tab.upd d.text.pool k fun _ => some ⟨r, bytes⟩ } })
          let done : TextRec := { x with parts := parts, state := .complete, timer := none }
          (¬ whole → textPart f d = put { x with parts := parts })
          ∧ (whole → textPart f d = (deliverWhole r done (put done)).1)
        (¬ served → textPart f d = count (fun z => { z with refusedByState := satInc z.refusedByState }) d)
        ∧ (served → ¬ inRange → textPart f d = invalid)
        ∧ (served → inRange → ∀ r x, findText l s d.text = some r → d.text? r = some x →
          (x.total ≠ m → textPart f d = invalid)
          ∧ (x.total = m → n ∈ x.parts.map Prod.fst →
            textPart f d = sendAnswer (.textAck s n) (count (fun z => { z with duplicates := satInc z.duplicates }) d))
          ∧ (x.total = m → n ∉ x.parts.map Prod.fst → d.freeSlots = [] → textPart f d = full)
          ∧ (∀ k, x.total = m → n ∉ x.parts.map Prod.fst → x.line = l → x.sender = s → d.freeSlots.head? = some k →
            stored r k x d.text.order))
        ∧ (served → inRange → findText l s d.text = none →
          ((∀ r, d.text? r ≠ none) ∨ d.freeSlots = [] → textPart f d = full)
          ∧ ∀ r k, d.text? r = none → (∀ j, j < r → d.text? j ≠ none) → d.freeSlots.head? = some k →
            stored r k
              { state := .collecting, line := l, sender := s, total := m, parts := [], ageMs := 0
                timer := some (1000 * (d.params l).assemblyTimeout) } (d.text.order ++ [r]))

/-- The delivery of texts. A Complete record offers its Whole text: where the notice joins, the record is Free, its slots are
free, and the text is counted; where it is refused the record waits. A freed place of the Host-bound Queue offers the Complete
records in list order up to the first refusal. ASSEMBLY_TIMER_EXPIRY of a Collecting record offers its Partial text once, which
names the parts that are missing, and the record is Free whether or not the notice joined (R97, R102, R103, R104, R105). -/
def Obligations.TextsAreDelivered : Prop :=
  (∀ (r : Fin 8) (x : TextRec) (d : Device),
    let notice : HostFrame := ⟨LineId.toField (some x.line), .urgent, 0, .notice ⟨x.sender.toNat,
      .text .whole .complete x.total x.parts.length
        (((List.range x.total).map (· + 1)).filter fun n => ¬ n ∈ x.parts.map Prod.fst)
        (min (x.ageMs / 1000) 65535)
        (x.parts.flatMap fun p => (d.text.pool.get p.2).elim [] PoolSlot.bytes)⟩⟩
    let freed (y : Device) : Device := { y with
      text :=
        { pool := y.text.pool.map fun s => s.filter fun p => p.owner ≠ r
          recs := Tab.upd y.text.recs r fun _ => none
          order := y.text.order.filter fun z => z ≠ r
          counts := y.text.counts.upd x.line fun c => { c with whole := satInc c.whole } } }
    deliverWhole r x d
      = if (offer notice d).2 then (freed (offer notice d).1, true) else ((offer notice d).1, false))
  ∧ (∀ d : Device, (∀ r ∈ d.text.order, ∀ x, d.text? r = some x → x.state ≠ .complete) → placeFreed d = d)
  ∧ (∀ (d : Device) (before after : List (Fin 8)) (r : Fin 8) (x : TextRec), d.text.order = before ++ r :: after →
    (∀ y ∈ before, ∀ z, d.text? y = some z → z.state ≠ .complete) → d.text? r = some x → x.state = .complete →
    ((deliverWhole r x d).2 = false → placeFreed d = (deliverWhole r x d).1)
    ∧ ((deliverWhole r x d).2 = true → d.text.order.Nodup →
      placeFreed d = placeFreed (deliverWhole r x d).1))
  ∧ ∀ (d : Device) (q : List Instr) (r : Fin 8) (x : TextRec), d.inReset = false → d.text? r = some x →
    x.state = .collecting → x.timer = some 0 →
    let notice (n : Byte) : HostFrame := ⟨LineId.toField (some x.line), .urgent, n, .notice ⟨x.sender.toNat,
      .text .partialText .timeout x.total x.parts.length
        (((List.range x.total).map (· + 1)).filter fun k => ¬ k ∈ x.parts.map Prod.fst)
        (min (x.ageMs / 1000) 65535)
        (x.parts.flatMap fun p => (d.text.pool.get p.2).elim [] PoolSlot.bytes)⟩⟩
    Answers (.assemblyTimerExpiry r) ⟨d, q⟩ fun t =>
      t.text? r = none ∧ (∀ j, j ≠ r → t.text? j = d.text? j) ∧ t.text.order = d.text.order.filter (fun y => y ≠ r)
      ∧ (∀ i, t.text.pool.get i = (d.text.pool.get i).filter fun p => p.owner ≠ r)
      ∧ SameBlocks { d with text := t.text } t
      ∧ t.text.counts.get x.line.other = d.text.counts.get x.line.other
      ∧ (d.host.queue.length < 48 → t.host.queue = d.host.queue ++ [notice d.host.seq]
        ∧ t.text.counts.get x.line = { d.text.counts.get x.line with
            partials := satInc (d.text.counts.get x.line).partials })
      ∧ (48 ≤ d.host.queue.length → (∀ y ∈ d.host.queue, y.cls = .urgent) → t.host.queue = d.host.queue
        ∧ t.text.counts.get x.line = { d.text.counts.get x.line with lost := satInc (d.text.counts.get x.line).lost })

/-! ### Calls (chapter 7) -/

/-- The call messages of the network, in every state of their line. One of Line 0 is discarded, and one without its reference,
with a reference above 127 or, for CALL-CLEAR, without its cause raises W1 (log entries 10 and 11). A CALL-OFFER is tested in
order: a line that is Off, Searching or Lost counts it; a Stopping one answers CALL-CLEAR Stopped; while the other line carries a
call the answer is CALL-CLEAR Busy with a CROSS-PAGE; an offer of a pair that has a record is counted; a full table answers
CALL-CLEAR Busy with a Rejected notice; otherwise the lowest Free record is Offered and Incoming with its guard, frozen on a
Moving line. CALL-ALERT takes Requested to Alerting with its guard going on; CALL-CONNECT takes Requested or Alerting to Active,
and another Active record is first put on Held with a CALL-HOLD; HOLD-ACK takes Active to Held; RETRIEVE-ACK takes Held to Active,
or clears it with cause Conflict while another is Active; CALL-CLEAR begins a Clearing of origin Network, changes nothing in one,
and crosses a Clearing of another origin; CLEAR-DONE and a crossing free a Clearing record where another of the line stays; what
the last one does is CallsTakeAndFreeTheLine. Any other record is left as it is, and the message counted as stray, or as unmatched
where none is found. A frame that finds the Device lane full is lost, and a CALL-CLEAR or CALL-HOLD is counted, but not a crossed
CLEAR-DONE (log entry 28); a record with release pending that is its line's last no longer is freed like any other (log entry 50;
R93, R109, R112 to R117, R122, R123). -/
def Obligations.NetworkCallMessages : Prop :=
  (∀ (d : Device) (f : LinkFrame),
    (LineId.ofField f.line = none → networkCall f d = d)
    ∧ (LineId.ofField f.line ≠ none →
      (f.fields.callRef = none ∨ (∃ n, f.fields.callRef = some n ∧ 127 < n)
        ∨ f.fields.mtype = .callClear ∧ f.fields.cause = none) → networkCall f d = raise .w1 f.line 0 d))
  ∧ ∀ (d : Device) (f : LinkFrame) (l : LineId) (ref : Nat), LineId.ofField f.line = some l →
    f.fields.callRef = some ref → ref ≤ 127 →
    let t := networkCall f d
    let count (g : CallCounts → CallCounts) (x : Device) : Device := x.onCalls fun c => { c with counts := c.counts.upd l g }
    let room : Prop := d.modem.deviceLane.length < 8
    let sent (k : LineId) (n : Byte) (p : ModemPayload) : ModemPort :=
      if room then { d.modem with deviceLane := d.modem.deviceLane ++ [⟨LineId.toField (some k), 0, n, p⟩] } else d.modem
    let lost (k : LineId) (g : CallCounts → CallCounts) : Prop :=
      t.calls.counts = if room then d.calls.counts else d.calls.counts.upd k g
    let answered (c : Cause) : Device :=
      { (if room then d else count (fun z => { z with clearsLost := satInc z.clearsLost }) d) with
        modem := sent l 255 (.callClear ref c) }
    let same (k : Fin 4) : Prop := ∀ j, j ≠ k → t.call j = d.call j
    let only : Prop := SameBlocks { d with calls := t.calls, modem := t.modem } t
    let becomes (k : Fin 4) (r : CallRec) : Prop := t.call k = some r ∧ same k ∧ only ∧ t.modem = d.modem
    let started (n : Nat) : Guard := if d.lineState l = .moving then .frozen n else .running n
    let served : Prop := d.lineState l = .camped ∨ d.lineState l = .connected ∨ d.lineState l = .moving
    (f.fields.mtype = .callOffer →
      (d.lineState l = .off ∨ d.lineState l = .searching ∨ d.lineState l = .lost →
        t = count (fun c => { c with offersDiscarded := satInc c.offersDiscarded }) d)
      ∧ (d.lineState l = .stopping → t = answered .stopped)
      ∧ (served → d.carriesCall l.other = true →
        t = notify (some l) ref
          (.crossPage .offer 0 (d.lineState l.other) ((d.servingCell l).getD ⟨0, 0⟩) (decide room))
          ((answered .busy).onPaging l fun p =>
            { p with counts := { p.counts with crossReported := satInc p.counts.crossReported } }))
      ∧ (served → d.carriesCall l.other = false →
        (∀ k, findCall l ref d = some k → t = count (fun c => { c with duplicates := satInc c.duplicates }) d)
        ∧ (∀ k, findCall l ref d = none → d.call k = none → (∀ j, j < k → d.call j ≠ none) →
          t.call k = some { line := l, dir := .incoming, ref := ref, state := .offered
                            guard := started (1000 * (d.params l).offerGuard), clearing := none, releasePending := none }
          ∧ same k
          ∧ t.calls.counts = d.calls.counts.upd l (fun c => { c with offersTaken := satInc c.offersTaken })
          ∧ (callsOf l d ≠ [] → only ∧ t.modem = d.modem))
        ∧ (findCall l ref d = none → (∀ k, d.call k ≠ none) →
          t = notify (some l) 255 (.callState .rejected (some .incoming) ref none (some .full) none)
            (count (fun c => { c with offersRejected := satInc c.offersRejected }) (answered .busy)))))
    ∧ (MsgType.isNetworkCall f.fields.mtype = true → f.fields.mtype ≠ .callOffer → findCall l ref d = none →
      (f.fields.mtype = .callClear → f.fields.cause ≠ none) →
      t = count (fun c => { c with unmatched := satInc c.unmatched }) d)
    ∧ ∀ k r, findCall l ref d = some k → d.call k = some r →
      let talking (j : Fin 4) : Prop := j ≠ k ∧ ∃ u, d.call j = some u ∧ u.state = .active
      let stray : Prop := t = count (fun c => { c with stray := satInc c.stray }) d
      let stays : Prop := ∃ j u, j ≠ k ∧ d.call j = some u ∧ u.line = l
      (f.fields.mtype = .callAlert →
        (r.state = .requested → becomes k { r with state := .alerting } ∧ t.calls.counts = d.calls.counts)
        ∧ (r.state ≠ .requested → stray))
      ∧ (f.fields.mtype = .callConnect →
        (r.state ≠ .requested → r.state ≠ .alerting → stray)
        ∧ (r.state = .requested ∨ r.state = .alerting →
          ((∀ j, ¬ talking j) →
            becomes k { r with state := .active, guard := .stopped } ∧ t.calls.counts = d.calls.counts)
          ∧ ∀ j u, d.call j = some u → talking j → (∀ i, i < j → ¬ talking i) →
            t.call k = some { r with state := .active, guard := .stopped }
            ∧ t.call j = some { u with state := .held, guard := .stopped }
            ∧ (∀ i, i ≠ j → i ≠ k → t.call i = d.call i) ∧ only
            ∧ t.modem = sent u.line (BitVec.ofNat 8 j.val) (.callHold u.ref)
            ∧ lost u.line fun z => { z with holdsLost := satInc z.holdsLost }))
      ∧ (f.fields.mtype = .holdAck →
        (r.state = .active →
          becomes k { r with state := .held, guard := .stopped } ∧ t.calls.counts = d.calls.counts)
        ∧ (r.state ≠ .active → stray))
      ∧ (f.fields.mtype = .retrieveAck →
        (r.state ≠ .held → stray)
        ∧ (r.state = .held → (∀ j, ¬ talking j) →
          becomes k { r with state := .active, guard := .stopped } ∧ t.calls.counts = d.calls.counts)
        ∧ (r.state = .held → (∃ j, talking j) →
          t.call k = some { r with state := .clearing, clearing := some (.conflict, .device), releasePending := none
                                   guard := started 5000 }
          ∧ same k ∧ only ∧ t.modem = sent l (BitVec.ofNat 8 k.val) (.callClear ref .conflict)
          ∧ lost l fun z => { z with clearsLost := satInc z.clearsLost }))
      ∧ (∀ c, f.fields.mtype = .callClear → f.fields.cause = some c →
        (r.state ≠ .clearing →
          becomes k { r with state := .clearing, clearing := some (c, .network), releasePending := none
                             guard := started 5000 }
          ∧ t.calls.counts = d.calls.counts)
        ∧ (∀ a, r.state = .clearing → r.clearing = some (a, .network) → t = d)
        ∧ (∀ a o, r.state = .clearing → r.clearing = some (a, o) → o ≠ .network → stays →
          t.call k = none ∧ same k ∧ only ∧ t.modem = sent l (BitVec.ofNat 8 k.val) (.clearDone ref)
          ∧ t.calls.counts = d.calls.counts))
      ∧ (f.fields.mtype = .clearDone →
        (r.state ≠ .clearing → stray)
        ∧ (r.state = .clearing → stays →
          t.call k = none ∧ same k ∧ only ∧ t.modem = d.modem ∧ t.calls.counts = d.calls.counts))

/-- OFFER_GUARD_EXPIRY and REQUEST_GUARD_EXPIRY with room in the Device lane: the device clears the call with cause No Answer or
Timeout, sends the CALL-CLEAR, and the clearing guard starts, frozen on a Moving line. CLEARING_GUARD_EXPIRY of a record that is
not its line's last, with room in the Device lane: it is Free, also with release pending (log entry 50), and where the network
began the clearing the device sends the CLEAR-DONE on the host's behalf (R122, R123). -/
def Obligations.CallGuardsClearAndFree : Prop :=
  ∀ (d : Device) (q : List Instr) (k : Fin 4) (r : CallRec), d.inReset = false → d.call k = some r →
    r.guard = .running 0 → d.modem.deviceLane.length < 8 →
    let cleared (c : Cause) (t : Device) : Prop :=
      t.call k = some { r with state := .clearing, clearing := some (c, .device), releasePending := none
                               guard := if d.lineState r.line = .moving then .frozen 5000 else .running 5000 }
      ∧ (∀ j, j ≠ k → t.call j = d.call j)
      ∧ t.modem = { d.modem with
          deviceLane := d.modem.deviceLane ++ [deviceSignal r.line (tagOf k) (.callClear r.ref c)] }
      ∧ SameBlocks { d with calls := t.calls, modem := t.modem } t ∧ t.calls.counts = d.calls.counts
    (r.state = .offered → Answers (.offerGuardExpiry k) ⟨d, q⟩ (cleared .noAnswer))
    ∧ (r.state = .requested ∨ r.state = .alerting → Answers (.requestGuardExpiry k) ⟨d, q⟩ (cleared .timeout))
    ∧ ∀ (j : Fin 4) (u : CallRec) (c : Cause) (o : Origin), r.state = .clearing → r.clearing = some (c, o) → j ≠ k →
      d.call j = some u → u.line = r.line →
      Answers (.clearingGuardExpiry k) ⟨d, q⟩ fun t =>
        t.call k = none ∧ (∀ i, i ≠ k → t.call i = d.call i)
        ∧ SameBlocks { d with calls := t.calls, modem := t.modem } t
        ∧ t.modem = { d.modem with
            deviceLane := if o = .network
              then d.modem.deviceLane ++ [deviceSignal r.line (tagOf k) (.clearDone r.ref)] else d.modem.deviceLane }

/-- The call messages of the host. One without its reference, with a reference above 127 or, for CALL-CLEAR, without its cause
raises W2 and goes no further (log entries 10 and 11). CALL-REQUEST is tested in order: a line without service, a call of the
other line, a record of the pair, a full table, each Refused and counted, the first two with no record looked for (log entry 61);
otherwise the lowest Free record is Requested and
Outgoing with its guard, frozen on a Moving line, and the frame goes on. CALL-ANSWER makes an Offered record Active, another
Active one being put on Held first with a CALL-HOLD, and goes on; a Clearing record repeats its notice; CALL-HOLD of an Active and
CALL-RETRIEVE of a Held record go on unchanged, however often they come; any other record is Refused, Wrong State, and none, No
Call. CALL-CLEAR and CLEAR-DONE always go on: the one begins a Clearing of origin Host, and the other frees a Clearing record,
where a record of the line stays (what the last one does is CallsTakeAndFreeTheLine). That a record with release pending is then
freed like any other is log entry 50; what direction and previous state a notice carries that reports no change of state is log
entry 49 (R110, R112, R117 to R123). -/
def Obligations.HostCallMessages : Prop :=
  ∀ (l : LineId) (f : LinkFrame) (d : Device),
    (f.fields.callRef = none ∨ (∃ n, f.fields.callRef = some n ∧ 127 < n)
      ∨ f.fields.mtype = .callClear ∧ f.fields.cause = none → hostCall l f d = (raise .w2 f.line 0 d, false))
    ∧ ∀ ref, f.fields.callRef = some ref → ref ≤ 127 →
      let count (g : CallCounts → CallCounts) (x : Device) : Device :=
        x.onCalls fun c => { c with counts := c.counts.upd l g }
      let refused (found : Option (Fin 4 × CallRec)) (c : CallNoticeCause) (x : Device) : Prop :=
        hostCall l f d = (notify (some l) (found.elim 255 fun p => p.1.val)
          (.callState .refused (found.map fun p => p.2.dir) ref (found.map fun p => p.2.state) (some c)
            (some (f.fields.mtype, f.tag))) x, false)
      let enters (k : Fin 4) (r : CallRec) (code : CallCode) (prev : CallState) (cause : Option CallNoticeCause)
          (x : Device) : Device :=
        notify (some r.line) k.val (.callState code (some r.dir) r.ref (some prev) cause none)
          (x.onCalls fun c => { c with recs := Tab.upd c.recs k fun _ => some r })
      let started (n : Nat) : Guard := if d.lineState l = .moving then .frozen n else .running n
      let served : Prop := d.lineState l = .camped ∨ d.lineState l = .connected ∨ d.lineState l = .moving
      let noRecord : Prop := findCall l ref d = none
      let found (k : Fin 4) (r : CallRec) : Prop := findCall l ref d = some k ∧ d.call k = some r
      (f.fields.mtype = .callRequest →
        let turned : Device := count (fun c => { c with requestsRefused := satInc c.requestsRefused }) d
        (¬ served → refused none .noService turned)
        ∧ (served → d.carriesCall l.other = true → refused none .radioBusy turned)
        ∧ (served → d.carriesCall l.other = false →
          (∀ k r, found k r → refused (some (k, r)) .referenceInUse turned)
          ∧ (noRecord → (∀ k, d.call k ≠ none) → refused none .full turned)
          ∧ ∀ k, noRecord → d.call k = none → (∀ j, j < k → d.call j ≠ none) →
            let t := (hostCall l f d).1
            let r : CallRec :=
              { line := l, dir := .outgoing, ref := ref, state := .requested
                guard := started (1000 * (d.params l).requestGuard), clearing := none, releasePending := none }
            (hostCall l f d).2 = true ∧ t.call k = some r ∧ (∀ j, j ≠ k → t.call j = d.call j)
            ∧ t.calls.counts = d.calls.counts.upd l (fun c => { c with requestsTaken := satInc c.requestsTaken })
            ∧ (callsOf l d ≠ [] →
              t = notify (some l) k.val (.callState .requested (some .outgoing) ref none none none)
                (count (fun c => { c with requestsTaken := satInc c.requestsTaken })
                  (d.onCalls fun c => { c with recs := Tab.upd c.recs k fun _ => some r })))))
      ∧ (f.fields.mtype = .callAnswer →
        (noRecord → refused none .noCall d)
        ∧ ∀ k r, found k r →
          let talking (j : Fin 4) : Prop := j ≠ k ∧ ∃ u, d.call j = some u ∧ u.state = .active
          let answered (x : Device) : Prop :=
            hostCall l f d = (enters k { r with state := .active, guard := .stopped } .active .offered none x, true)
          (r.state = .offered → (∀ j, ¬ talking j) → answered d)
          ∧ (r.state = .offered → ∀ j u, d.call j = some u → talking j → (∀ i, i < j → ¬ talking i) →
            let held : Device := enters j { u with state := .held, guard := .stopped } .held .active none d
            (d.modem.deviceLane.length < 8 →
              answered { held with
                modem := { d.modem with
                  deviceLane := d.modem.deviceLane
                    ++ [⟨LineId.toField (some u.line), 0, BitVec.ofNat 8 j.val, .callHold u.ref⟩] } })
            ∧ (8 ≤ d.modem.deviceLane.length →
              answered (held.onCalls fun c =>
                { c with counts := c.counts.upd u.line fun z => { z with holdsLost := satInc z.holdsLost } })))
          ∧ (r.state = .clearing →
            hostCall l f d = (notify (some l) k.val
              (.callState .clearing (some r.dir) ref (some .clearing) (r.clearing.map fun c => .clearing c.1) none) d, false))
          ∧ (r.state ≠ .offered → r.state ≠ .clearing → refused (some (k, r)) .wrongState d))
      ∧ (f.fields.mtype = .callHold ∨ f.fields.mtype = .callRetrieve →
        let want : CallState := if f.fields.mtype = .callHold then .active else .held
        (∀ k r, found k r → r.state = want → hostCall l f d = (d, true))
        ∧ (∀ k r, found k r → r.state ≠ want → refused (some (k, r)) .wrongState d)
        ∧ (noRecord → refused none .noCall d))
      ∧ (∀ c, f.fields.mtype = .callClear → f.fields.cause = some c →
        (∀ k r, found k r → r.state ≠ .clearing →
          hostCall l f d
            = (enters k { r with state := .clearing, clearing := some (c, .host), releasePending := none
                                 guard := started 5000 } .clearing r.state (some (.clearing c)) d, true))
        ∧ (∀ k r, found k r → r.state = .clearing → hostCall l f d = (d, true))
        ∧ (noRecord → hostCall l f d = (d, true)))
      ∧ (f.fields.mtype = .clearDone →
        (∀ k r j u, found k r → r.state = .clearing → j ≠ k → d.call j = some u → u.line = l →
          hostCall l f d
            = (notify (some l) k.val (.callState .released (some r.dir) r.ref (some .clearing) (some .done) none)
                (d.onCalls fun c => { c with recs := Tab.upd c.recs k fun _ => none }), true))
        ∧ (∀ k r, found k r → r.state ≠ .clearing → hostCall l f d = (d, true))
        ∧ (noRecord → hostCall l f d = (d, true)))

/-- What calls make of their line. The first record taken on a Camped line, by a CALL-OFFER or a CALL-REQUEST, makes it Connected:
a reselection in flight ends with the result Abandoned, the Hold goes to the lanes in order, a waiting ACCESS request is
withdrawn, TRAFFIC is wanted and standing, paging is Off, and the connected measurement begins. The last record freed, by a
CLEAR-DONE of either side, a crossed CALL-CLEAR or the clearing guard, takes a Connected line to Camped, its overrides dropped,
its camped rounds at 0, TRAFFIC released, its radio-link timer as it was (log entry 15), and paging and idle rounds resumed; with
the Serving Barred flag set, a reselection to the best candidate starts, or the line is Searching where there is none. It takes a
Stopping line to Off, its Hold discarded and the count of discarded frames cleared by the Off notice (log entry 16). On a Moving
line the record stays with release pending and the cause of that event, which a later one leaves as it is (R51, R56, R111, R134,
R135, R160). -/
def Obligations.CallsTakeAndFreeTheLine : Prop :=
  ∀ (l : LineId) (f : LinkFrame) (ref : Nat) (d : Device), LineId.ofField f.line = some l → f.fields.callRef = some ref →
    ref ≤ 127 →
    let roundOf (t : Device) : Prop := (t.measLine l).round = some ((measSet l t).map fun i => (i, false))
    (d.lineState l = .camped → d.carriesCall l.other = false → (∀ k r, d.call k = some r → r.line ≠ l) →
      (∃ k, d.call k = none) → (∀ m, d.moveRec l = some m → m.kind = .reselect) →
      let taken (t : Device) : Prop :=
        t.lineState l = .connected ∧ t.moveRec l = none
        ∧ t.line l = { d.line l with state := .connected, hold := (t.line l).hold } ∧ t.line l.other = d.line l.other
        ∧ ((∀ x ∈ (d.line l).hold, ∃ y, x.payload = .forwarded y) →
          t.modem.hostLane = d.modem.hostLane ++ (d.line l).hold.take (8 - d.modem.hostLane.length)
          ∧ (t.line l).hold = (d.line l).hold.drop (8 - d.modem.hostLane.length))
        ∧ (slotState t (slotOf .access l)).waits = false
        ∧ (t.slot (slotOf .traffic l)).standing = true ∧ slotState t (slotOf .traffic l) ≠ .idle
        ∧ (t.page l).state = .off
        ∧ (t.measLine l).sched = .connected ∧ (t.measLine l).timer = .running (d.params l).intervalG
        ∧ (t.measLine l).reportsSent = 0 ∧ (t.measLine l).roundsSince = 0 ∧ roundOf t
        ∧ (t.move.get l).counts = (if d.reselecting l then
            { (d.move.get l).counts with reselAbandoned := satInc (d.move.get l).counts.reselAbandoned }
          else (d.move.get l).counts)
      (f.fields.mtype = .callOffer → taken (networkCall f d))
      ∧ (f.fields.mtype = .callRequest → taken (hostCall l f d).1))
    ∧ ∀ (k : Fin 4) (r : CallRec) (a : Cause) (o : Origin), findCall l ref d = some k → d.call k = some r →
      r.state = .clearing → r.clearing = some (a, o) → (∀ j u, d.call j = some u → u.line = l → j = k) →
      let freed (t : Device) : Prop :=
        t.call k = none ∧ (∀ j, j ≠ k → t.call j = d.call j) ∧ t.line l.other = d.line l.other
        ∧ (t.slot (slotOf .traffic l)).standing = false ∧ (slotState t (slotOf .traffic l)).waits = false
        ∧ (d.lineState l = .stopping →
          t.line l = { d.line l with state := .off, hold := [], holdLost := 0 })
        ∧ (d.lineState l = .connected → d.moveRec l = none → (d.line l).serving.isSome = true →
          ((d.line l).servingBarred = false →
            t.line l = { d.line l with state := .camped, overrides := none, campedRounds := 0 }
            ∧ ((t.page l).state = .watching ↔ ∃ i, ((d.page l).identities.get i).valid = true)
            ∧ (t.measLine l).sched ≠ .connected ∧ roundOf t ∧ t.moveRec l = none)
          ∧ ((d.line l).servingBarred = true →
            (bestCandidate l none d = none → t.lineState l = .searching ∧ (t.line l).serving = none)
            ∧ ∀ i n, bestCandidate l none d = some (i, n) →
              t.line l = { d.line l with state := .camped, overrides := none, campedRounds := 0 }
              ∧ ∃ m, t.moveRec l = some m ∧ m.kind = .reselect ∧ m.trigger = .barredServing ∧ m.targetEntry = i
                ∧ m.target = (d.entry i).cell))
      let pending (c : CallNoticeCause) (x : Device) (t : Device) : Prop :=
        (r.releasePending = none →
          t = { x with calls := { x.calls with
            recs := Tab.upd x.calls.recs k fun _ => some { r with releasePending := some c, guard := .stopped } } })
        ∧ (∀ e, r.releasePending = some e → t = x)
      let done : Device := if d.modem.deviceLane.length < 8 then
          { d with modem := { d.modem with
            deviceLane := d.modem.deviceLane ++ [⟨LineId.toField (some l), 0, BitVec.ofNat 8 k.val, .clearDone ref⟩] } }
        else d
      let ends : Prop := d.lineState l = .connected ∨ d.lineState l = .stopping
      (f.fields.mtype = .clearDone →
        (ends → freed (networkCall f d) ∧ freed (hostCall l f d).1 ∧ (hostCall l f d).2 = true)
        ∧ (d.lineState l = .moving → pending .done d (networkCall f d) ∧ pending .done d (hostCall l f d).1))
      ∧ (f.fields.mtype = .callClear → f.fields.cause ≠ none → o ≠ .network →
        (ends → freed (networkCall f d)) ∧ (d.lineState l = .moving → pending .crossed done (networkCall f d)))
      ∧ (r.guard = .running 0 → ends → d.inReset = false → ∀ q, Answers (.clearingGuardExpiry k) ⟨d, q⟩ freed)

/-- The voice gate, in either direction. A frame whose record is Active while its line's TRAFFIC slot is Active passes and is
counted: to the voice buffer, or to the Voice lane, in both with the record's tag (the Tag of its header on the modem link is the
matter of ModemLinkTakesLanesInOrder, log entry 12). With that slot in
any other state it is discarded quietly and counted, on a Moving line for the move's result too. With its record in any other
state, or with none, it raises W8; of Line 0 it is discarded; and a malformed one raises the warning of its port,
before its Line is looked at and with that line (log entries 10 and 11; R3, R36, R124, R150). -/
def Obligations.VoiceGate : Prop :=
  ∀ (f : LinkFrame) (d : Device),
    let wellFormed : Prop := f.fields.callRef ≠ none ∧ f.fields.seq ≠ none
      ∧ ∃ bytes, f.fields.voice = some bytes ∧ 1 ≤ bytes.length ∧ bytes.length ≤ 64
    (¬ wellFormed → gateDown f d = raise .w1 f.line 0 d ∧ gateUp f d = raise .w2 f.line 0 d)
    ∧ (wellFormed → LineId.ofField f.line = none → gateDown f d = d ∧ gateUp f d = d)
    ∧ ∀ l ref, wellFormed → LineId.ofField f.line = some l → f.fields.callRef = some ref →
      let count (g : CallCounts → CallCounts) (x : Device) : Device :=
        x.onCalls fun c => { c with counts := c.counts.upd l g }
      let misrouted : Prop := gateDown f d = raise .w8 f.line ref d ∧ gateUp f d = raise .w8 f.line ref d
      (findCall l ref d = none → misrouted)
      ∧ ∀ k r, findCall l ref d = some k → d.call k = some r →
        let quiet : Device :=
          let x := count (fun c => { c with voiceDiscarded := satInc c.voiceDiscarded }) d
          if d.lineState l = .moving then
            x.onMove l fun v => { v with
              record := v.record.map fun m => { m with voiceDiscarded := satInc m.voiceDiscarded } }
          else x
        (r.state ≠ .active → misrouted)
        ∧ (r.state = .active → slotState d (slotOf .traffic l) ≠ .active → gateDown f d = quiet ∧ gateUp f d = quiet)
        ∧ (r.state = .active → slotState d (slotOf .traffic l) = .active →
          gateDown f d = count (fun c => { c with voiceDown := satInc c.voiceDown })
            { d with
              host := { d.host with
                voice := pushDropOldest 2 d.host.voice ⟨f.line, .normal, BitVec.ofNat 8 k.val, .delivered f⟩ } }
          ∧ gateUp f d = count (fun c => { c with voiceUp := satInc c.voiceUp })
            { d with
              modem := { d.modem with
                voiceLane := pushDropOldest 4 d.modem.voiceLane
                  ⟨f.line, f.cls, BitVec.ofNat 8 k.val, .forwarded f⟩ } })

/-! ### Measurement (chapter 8) -/

/-- A line's measurement set: its serving entry, with the entries it owns that are Listed, Measured or Stale and whose flag
for its mode is set; it has no duplicates and stands in index order; a line in any other state has none (R132). One filter step
with a coefficient k of 0..6 moves the filter value by 16 times the sample less the old value, with 2^(k-1) added, shifted right
arithmetically by k; it keeps the filter value between its old value and the sample, whatever the direction, and with coefficient
0 it takes the sample. The reported level is F / 16 rounded to the nearest with halves upward (R139, R140). -/
def Obligations.MeasurementSetAndFilter : Prop :=
  (∀ (l : LineId) (d : Device),
    (∀ i : Fin 24, i ∈ measSet l d ↔
      (d.lineState l = .camped ∨ d.lineState l = .connected ∨ d.lineState l = .moving)
      ∧ ((d.line l).serving = some i
        ∨ ((d.entry i).own.get l = true
          ∧ ((d.entry i).state = .listed ∨ (d.entry i).state = .measured ∨ (d.entry i).state = .stale)
          ∧ (if d.lineState l = .camped then (d.entry i).inIdle else (d.entry i).inCall) = true)))
    ∧ (measSet l d).Pairwise (· < ·) ∧ (measSet l d).length ≤ 24)
  ∧ ∀ (k : Nat) (f s : Int), k ≤ 6 →
    filterStep k f s = f + ((s * 16 - f + if k = 0 then 0 else 2 ^ (k - 1)) >>> k)
    ∧ (f ≤ s * 16 → f ≤ filterStep k f s ∧ filterStep k f s ≤ s * 16)
    ∧ (s * 16 ≤ f → s * 16 ≤ filterStep k f s ∧ filterStep k f s ≤ f)
    ∧ filterStep 0 f s = s * 16
    ∧ 16 * reportedLevel f ≤ f + 8 ∧ f + 8 < 16 * reportedLevel f + 16

/-- A SAMPLE handed to the Measurement Unit. A payload without its fields raises W1 (its line is log entry 10); one of Line 0 or
of an Off line is discarded. The level is clamped to -560..-176 and the quality to 0..31; a detected sample gives its level to the
found items of its cell where the line's SEARCH window is Active; a cell that no entry holds advances the unmatched count. For an
entry it marks the rounds, of either line, that hold it; a Barred entry takes nothing further, a locked one parks it, and any
other takes it: a detected sample sets or filters F and clears the misses, with the penalty timer started by the first, and a miss
advances the count up to the limit, where a Measured entry becomes Stale (R133, R137, R138, R139; a count above a limit lowered
since is log entry 51, the count of samples applied to a locked entry is log entry 24, and that a parked one is dropped for an
entry Barred meanwhile is log entry 55). -/
def Obligations.SamplesReachTheirEntry : Prop :=
  (∀ (f : LinkFrame) (d : Device),
    (f.fields.cell = none ∨ f.fields.frameNo = none ∨ f.fields.detected = none ∨ f.fields.level = none
      ∨ f.fields.quality = none → sampleMsg f d = raise .w1 f.line 0 d)
    ∧ ∀ c n det v q, f.fields.cell = some c → f.fields.frameNo = some n → f.fields.detected = some det →
      f.fields.level = some v → f.fields.quality = some q →
      (LineId.ofField f.line = none → sampleMsg f d = d)
      ∧ ∀ l, LineId.ofField f.line = some l →
        let s : Int := max (-560) (min v (-176))
        let x : Device :=
          if det = true ∧ slotState d (slotOf .search l) = .active then
            d.onLine l fun r => { r with found := r.found.map fun y => if y.cell = c then { y with level := some s } else y }
          else d
        let holds (i : Fin 24) : Prop := (d.entry i).state ≠ .free ∧ (d.entry i).cell = c
        (d.lineState l = .off → sampleMsg f d = d)
        ∧ (d.lineState l ≠ .off → (∀ i, ¬ holds i) →
          sampleMsg f d = x.onMeasLine l fun m =>
            { m with counts := { m.counts with unmatched := satInc m.counts.unmatched } })
        ∧ (d.lineState l ≠ .off → ∀ i, holds i → (∀ j, j < i → ¬ holds j) →
          sampleMsg f d = entrySample i ⟨c, l, n, det, s, (max 0 (min q 31)).toNat⟩ x))
  ∧ (∀ (i : Fin 24) (s : Parked) (d : Device),
    (∀ l r, (d.measLine l).round = some r → ∃ x ∈ r, x.1 ≠ i ∧ x.2 = false) →
    let mark (m : MeasLine) : MeasLine :=
      { m with round := m.round.map fun r => r.map fun x => if x.1 = i then (x.1, true) else x }
    let count (own : Bool) (m : MeasLine) : MeasLine :=
      if own then { m with counts := { m.counts with applied := satInc m.counts.applied } } else m
    let marked : Device := { d with meas := { d.meas with lines := ⟨mark d.meas.lines.a, mark d.meas.lines.b⟩ } }
    let counted : Device := { d with
      meas := { d.meas with
        lines := ⟨count (d.entry i).own.a (mark d.meas.lines.a), count (d.entry i).own.b (mark d.meas.lines.b)⟩ } }
    ((d.entry i).state = .barred → entrySample i s d = marked)
    ∧ ((d.entry i).state ≠ .barred → ∀ k, d.meas.lock = some k → k.entry = i →
      entrySample i s d = { counted with meas := { counted.meas with lock := some { k with parked := some s } } })
    ∧ ((d.entry i).state ≠ .barred → (∀ k, d.meas.lock = some k → k.entry ≠ i) →
      entrySample i s d = applySample i s counted))
  ∧ ∀ (i : Fin 24) (s : Parked) (d : Device),
    let e := d.entry i
    let p := d.params (if e.own.a then .a else .b)
    let t := applySample i s d
    let first : Prop := e.state ≠ .measured ∨ e.filter = none
    (e.state = .free ∨ e.state = .barred → t = d)
    ∧ (e.state ≠ .free → e.state ≠ .barred →
      (∀ j, j ≠ i → t.entry j = d.entry j) ∧ t = { d with meas := { t.meas with lock := d.meas.lock, lockHold := d.meas.lockHold } }
      ∧ (s.detected = true → t.meas.lines = d.meas.lines ∧ ∃ f : Int,
        (first → f = s.level * 16) ∧ (∀ g, e.state = .measured → e.filter = some g → f = filterStep p.coeffK g s.level)
        ∧ t.entry i = { e with
            state := .measured, filter := some f, level := some (reportedLevel f), quality := some s.quality, misses := 0
            lastFrame := some s.frameNo
            penalty := (t.entry i).penalty }
        ∧ (first → p.penaltyTime ≠ 0 → (t.entry i).penalty = some (1000 * p.penaltyTime))
        ∧ (¬ first ∨ p.penaltyTime = 0 → (t.entry i).penalty = e.penalty))
      ∧ (s.detected = false →
        t.entry i = { e with
          misses := min (e.misses + 1) p.missLimit, lastFrame := some s.frameNo
          state := if e.state = .measured ∧ p.missLimit ≤ e.misses + 1 then .stale else e.state }
        ∧ (t.measLine s.line).counts = { (d.measLine s.line).counts with misses := satInc (d.measLine s.line).counts.misses }
        ∧ t.measLine s.line.other = d.measLine s.line.other))

/-- Triggers and reports. At a round end of a Connected line with a Measured serving entry of level L_s, an owned neighbour that
is Measured and above L_s + Hys advances its count and is Triggered at TTT; one below L_s - Hys, and one that is not Measured, is
cleared; one between keeps a set mark and clears a count. A newly Triggered entry draws a report; while some entry is Triggered a
report follows at each interval up to the amount; with none the report state is cleared. A report goes to the Device lane with Tag
255, the serving cell's figures, and up to 4 Triggered entries by descending L_n + Ocn, ties to the lower index; one that finds
the lane full is counted as lost; the rounds since the last report stay at 60 (log entry 54). A REPORT-CONFIG sets the overrides
of a Connected or Moving line, each field clamped to its range; of any other line or of Line 0 it is discarded, and one without
its fields raises W1 (log entries 10 and 11; R131, R141, R142, R143, R144). -/
def Obligations.TriggersAndReports : Prop :=
  (∀ (l : LineId) (ls : Int) (hys ttt : Nat) (e : Entry),
    let g := e.trig.get l
    let t := evalTrigger l ls hys ttt e
    (∀ n, e.state = .measured → e.level = some n →
      let v := n + e.ocn.get l
      (ls + hys < v → g.triggered = true → t = g)
      ∧ (ls + hys < v → g.triggered = false → t = ⟨min (g.count + 1) 15, decide (ttt ≤ g.count + 1), g.run⟩)
      ∧ (v < ls - hys → t = ⟨0, false, g.run⟩)
      ∧ (ls - hys ≤ v → v ≤ ls + hys → t = if g.triggered then g else ⟨0, false, g.run⟩))
    ∧ (e.state ≠ .measured → t = ⟨0, false, g.run⟩))
  ∧ (∀ (l : LineId) (s : Fin 24) (ls : Int) (d : Device),
    let o : Overrides := (d.line l).overrides.getD
      ⟨(d.params l).hys, (d.params l).ttt, (d.params l).reportInterval, (d.params l).reportAmount⟩
    let new (i : Fin 24) : Trigger := evalTrigger l ls o.hys o.ttt (d.entry i)
    let judged (i : Fin 24) : Prop := i ≠ s ∧ (d.entry i).own.get l = true
    let t := evalTriggers l s ls d
    (∀ i, (judged i → t.1.entry i = { d.entry i with trig := (d.entry i).trig.upd l fun _ => new i })
      ∧ (¬ judged i → t.1.entry i = d.entry i))
    ∧ t.1 = { d with meas := { d.meas with entries := t.1.meas.entries } }
    ∧ (t.2 = true ↔ ∃ i, judged i ∧ (new i).triggered = true ∧ ((d.entry i).trig.get l).triggered = false))
  ∧ (∀ (l : LineId) (s : Fin 24) (new : Bool) (d : Device),
    let o : Overrides := (d.line l).overrides.getD
      ⟨(d.params l).hys, (d.params l).ttt, (d.params l).reportInterval, (d.params l).reportAmount⟩
    let m := d.measLine l
    let state (sent since : Nat) : Device := d.onMeasLine l fun x => { x with reportsSent := sent, roundsSince := since }
    let triggered : Prop := ∃ i, (d.entry i).own.get l = true ∧ ((d.entry i).trig.get l).triggered = true ∧ (d.entry i).level ≠ none
    let since := min (m.roundsSince + 1) 60
    let t := reportDecision l s new d
    (new = true → t = sendReport l s (state 1 0))
    ∧ (new = false → ¬ triggered → t = state 0 0)
    ∧ (new = false → triggered → o.interval ≤ since → m.reportsSent < o.amount →
      t = sendReport l s (state (m.reportsSent + 1) 0))
    ∧ (new = false → triggered → since < o.interval ∨ o.amount ≤ m.reportsSent → t = state m.reportsSent since))
  ∧ (∀ (l : LineId) (s : Fin 24) (d : Device),
    let v (i : Fin 24) : Int := (d.entry i).level.getD 0 + (d.entry i).ocn.get l
    let e := d.entry s
    let t := sendReport l s d
    ∃ xs : List (Fin 24),
      (∀ i, i ∈ xs ↔ (d.entry i).own.get l = true ∧ ((d.entry i).trig.get l).triggered = true ∧ (d.entry i).level ≠ none)
      ∧ xs.Pairwise (fun i j => v j < v i ∨ v i = v j ∧ i < j)
      ∧ (d.modem.deviceLane.length < 8 →
        t = { d.onMeasLine l fun m => { m with counts := { m.counts with reportsSent := satInc m.counts.reportsSent } } with
          modem := { d.modem with
            deviceLane := d.modem.deviceLane
              ++ [⟨LineId.toField (some l), 0, 255, .moveReport ⟨e.cell, e.level.getD 0, e.quality.getD 0⟩
                ((xs.take 4).map fun i => ⟨(d.entry i).cell, (d.entry i).level.getD 0, (d.entry i).quality.getD 0,
                  (d.entry i).lastFrame⟩)⟩] } })
      ∧ (8 ≤ d.modem.deviceLane.length →
        t = d.onMeasLine l fun m =>
          { m with counts := { m.counts with reportsSent := satInc m.counts.reportsSent, reportsLost := satInc m.counts.reportsLost } }))
  ∧ ∀ (f : LinkFrame) (d : Device),
    (f.fields.hys = none ∨ f.fields.ttt = none ∨ f.fields.interval = none ∨ f.fields.amount = none →
      reportConfigMsg f d = raise .w1 f.line 0 d)
    ∧ ∀ h n i a, f.fields.hys = some h → f.fields.ttt = some n → f.fields.interval = some i → f.fields.amount = some a →
      (LineId.ofField f.line = none → reportConfigMsg f d = d)
      ∧ ∀ l, LineId.ofField f.line = some l →
        (d.lineState l = .connected ∨ d.lineState l = .moving →
          let o : Overrides :=
            ⟨(max 0 (min h 60)).toNat, (max 1 (min n 15)).toNat, (max 1 (min i 60)).toNat, (max 1 (min a 8)).toNat⟩
          reportConfigMsg f d = d.onLine l fun r => { r with overrides := some o })
        ∧ (d.lineState l ≠ .connected → d.lineState l ≠ .moving → reportConfigMsg f d = d)

/-- Round ends and ranking. A round ends when every remaining member is marked: the rounds count advances, and the line's
evaluation is followed by the next round, of its set unmarked; a Moving line, and one whose serving entry is not Measured, makes
no evaluation, and a Camped line's camped-round count advances. The best candidate is the Measured, owned, non-serving entry of
the highest L_n - Qoff - P, with P only while its penalty timer runs, ties to the lower index. Where it is above R_s its run count
advances and the others become 0, and with the run count at Tresel and 4 camped rounds a reselection to it starts; otherwise every
run count becomes 0. A reselection that starts while another slot holds the radio makes its record in Waiting Grant, suspends
paging, freezes the measurement timer and leaves its MOVE slot waiting (R133, R145, R158). -/
def Obligations.RoundsAndRanking : Prop :=
  (∀ (l : LineId) (d : Device) (r : List (Fin 24 × Bool)), (d.measLine l).round = some r →
    let ended (x : Device) : Device := x.onMeasLine l fun m =>
      { m with counts := { m.counts with rounds := satInc m.counts.rounds } }
    let next (x : Device) : Device := x.onMeasLine l fun m => { m with round := some ((measSet l x).map fun i => (i, false)) }
    let camped : Device := (ended d).onLine l fun x => { x with campedRounds := min (x.campedRounds + 1) 255 }
    let unmeasured : Prop := ∀ s, (d.line l).serving = some s → (d.entry s).state ≠ .measured
    ((∃ x ∈ r, x.2 = false) ∨ r = [] → checkRound l d = d)
    ∧ (r ≠ [] → (∀ x ∈ r, x.2 = true) →
      (d.lineState l = .moving ∨ d.lineState l = .connected ∧ unmeasured → checkRound l d = next (ended d))
      ∧ (d.lineState l = .camped → d.reselecting l = true ∨ unmeasured → checkRound l d = next camped)
      ∧ (d.lineState l = .camped → d.reselecting l = false → ¬ unmeasured → checkRound l d = next (evaluateCamped l camped))
      ∧ (∀ s ls, d.lineState l = .connected → (d.line l).serving = some s → (d.entry s).state = .measured →
        (d.entry s).level = some ls →
        checkRound l d
          = next (reportDecision l s (evalTriggers l s ls (ended d)).2 (evalTriggers l s ls (ended d)).1))))
  ∧ ∀ (l : LineId) (out : Option (Fin 24)) (d : Device),
    let rank (i : Fin 24) : Int := (d.entry i).level.getD 0 - (d.entry i).qoff
      - (if (d.entry i).penalty = none then 0 else ((d.params l).penaltyP : Int))
    let candidate (i : Fin 24) : Prop := (d.entry i).state = .measured ∧ (d.entry i).level ≠ none
      ∧ (d.entry i).own.get l = true ∧ (d.line l).serving ≠ some i
    let runs (n : Fin 24 → Nat) (x : Device) : Prop := x = { d with meas := { d.meas with entries := x.meas.entries } }
      ∧ ∀ j, x.entry j = { d.entry j with trig := (d.entry j).trig.upd l fun g => { g with run := n j } }
    (bestCandidate l out d = none ↔ ∀ i, out ≠ some i → ¬ candidate i)
    ∧ (∀ i n, bestCandidate l out d = some (i, n) ↔ out ≠ some i ∧ candidate i ∧ n = rank i
      ∧ ∀ j, out ≠ some j → candidate j → rank j < rank i ∨ rank j = rank i ∧ i ≤ j)
    ∧ (∀ s ls, (d.line l).serving = some s → (d.entry s).state = .measured → (d.entry s).level = some ls →
      let rs : Int := ls + (d.line l).qhyst.getD 0
      ((∀ i n, bestCandidate l none d = some (i, n) → n ≤ rs) → runs (fun _ => 0) (evaluateCamped l d))
      ∧ ∀ i n, bestCandidate l none d = some (i, n) → rs < n →
        let run := min (((d.entry i).trig.get l).run + 1) 15
        (run < (d.params l).tresel ∨ (d.line l).campedRounds < 4 →
          runs (fun j => if j = i then run else 0) (evaluateCamped l d))
        ∧ ((d.params l).tresel ≤ run → 4 ≤ (d.line l).campedRounds →
          ∃ x, runs (fun _ => 0) x ∧ evaluateCamped l d = startReselect l .ranking i x))
    ∧ ∀ (s i : Fin 24) (trigger : MoveTrigger) (k : Holder), (d.line l).serving = some s → d.arb.holder = some k →
      slotState d (slotOf .move l) = .idle →
      let t := startReselect l trigger i d
      t.moveRec l = some
        { kind := .reselect, trigger := trigger, phase := .waitingGrant, target := (d.entry i).cell, targetEntry := i
          oldEntry := s, oldCell := (d.entry s).cell, deadline := (d.params l).reselectDeadline, extended := false
          evicted := none, voiceDiscarded := 0, fallbackCause := none, barredAtReady := false }
      ∧ (t.page l).state = .suspended ∧ (slotState t (slotOf .move l)).waits = true
      ∧ (t.measLine l).timer = (d.measLine l).timer.freeze
      ∧ (t.measLine l).counts
        = { (d.measLine l).counts with reselections := satInc (d.measLine l).counts.reselections }
      ∧ t.lines = d.lines ∧ t.meas.entries = d.meas.entries ∧ t.calls = d.calls ∧ t.text = d.text ∧ t.disp = d.disp

/-- Neighbour writes and the lock. The checks of a write of one entry or several, in the order of R129, of which the duplicate
check passes over a cell written with no owner (log entry 37), and what the write makes of an entry (that the miss count, last
sample frame and penalty timer of one that becomes Free are cleared is log entry 64). NEIGHBOUR_TABLE_WRITE of one or several
entries, LOCK_READ and WRITE_UNLOCK of the locked entry: the write is applied, and the entries that it takes out of a line's set
leave its round (where the round ends by that, R133 goes on), or it is refused whole with the check's reason; Lock-Read takes the
lock; Write-Unlock clears it and applies a parked sample after the write, unless the entry is then Free or has another cell, or is
Barred (log entry 55); a Write-Unlock that fails a check clears the lock too, one with a body that does not fit, or a Target but
0, is refused and leaves it (log entry 38), and one of an entry not locked is Refused, reason Locked, with a lock of another entry
split. LOCK_HOLD_EXPIRY is a split: the lock clears, W7 names the entry, with the line of its lead owner (log entry 10), and a
parked sample of the entry's cell is applied (R129, R132, R133, R147, R148, R174). -/
def Obligations.NeighbourWritesAndTheLock : Prop :=
  (∀ (first : Nat) (xs : List HostFields) (d : Device), first + xs.length ≤ 24 →
    let item (i : Fin 24) : Option HostFields := if first ≤ i.val then xs[i.val - first]? else none
    let owned (x : HostFields) : Prop := x.ownA = true ∨ x.ownB = true
    let holds (c : Cell) (i : Fin 24) : Prop := match item i with
      | some x => owned x ∧ x.cell = c
      | none => (d.entry i).state ≠ .free ∧ (d.entry i).cell = c
    let outside : Prop := ∃ x ∈ xs, ¬ (x.cell.channel ≤ 4095 ∧ x.cell.code ≤ 511 ∧ -96 ≤ x.ocnA ∧ x.ocnA ≤ 96
      ∧ -96 ≤ x.ocnB ∧ x.ocnB ≤ 96 ∧ -96 ≤ x.qoff ∧ x.qoff ≤ 96)
    let twice : Prop := ∃ i j x, item i = some x ∧ owned x ∧ j ≠ i ∧ holds x.cell j
    let serving : Prop := ∃ i x, item i = some x
      ∧ (((d.entry i).servingFor.a = true ∨ (d.entry i).servingFor.b = true) ∧ x.cell ≠ (d.entry i).cell
        ∨ (d.entry i).servingFor.a = true ∧ x.ownA = false ∨ (d.entry i).servingFor.b = true ∧ x.ownB = false)
    (outside → neighbourFault first xs d = some .range)
    ∧ (¬ outside → twice → neighbourFault first xs d = some .duplicate)
    ∧ (¬ outside → ¬ twice → serving → neighbourFault first xs d = some .serving)
    ∧ (¬ outside → ¬ twice → ¬ serving → neighbourFault first xs d = none))
  ∧ (∀ (x : HostFields) (e : Entry),
    let t := e.write x
    let owned : Prop := x.ownA = true ∨ x.ownB = true
    let cleared : Prop := t.filter = none ∧ t.level = none ∧ t.quality = none ∧ t.misses = 0 ∧ t.lastFrame = none
      ∧ t.penalty = none ∧ t.bar = none ∧ t.trig = ⟨⟨0, false, 0⟩, ⟨0, false, 0⟩⟩
    t.cell = x.cell ∧ t.own = ⟨x.ownA, x.ownB⟩ ∧ t.ocn = ⟨x.ocnA, x.ocnB⟩ ∧ t.qoff = x.qoff ∧ t.inIdle = x.inIdle
    ∧ t.inCall = x.inCall
    ∧ (¬ owned → t.state = .free ∧ t.servingFor = ⟨false, false⟩ ∧ cleared)
    ∧ (owned → e.state = .free ∨ x.cell ≠ e.cell → t.state = .listed ∧ cleared)
    ∧ (owned → e.state ≠ .free → x.cell = e.cell →
      t = { e with own := t.own, ocn := t.ocn, qoff := t.qoff, inIdle := t.inIdle, inCall := t.inCall, trig := t.trig }
      ∧ ∀ l, t.trig.get l = if t.own.get l then e.trig.get l else ⟨0, false, 0⟩))
  ∧ ∀ (d : Device) (q : List Instr),
    let pruned (t : Device) (l : LineId) : Option (List (Fin 24 × Bool)) :=
      (d.measLine l).round.map fun r => r.filter fun y => decide (y.1 ∈ measSet l t)
    (∀ (h : CmdHead) (xs : List HostFields), Commandable d → h.target.toNat = 4 →
      let first : Nat := h.index.toNat
      (xs = [] ∨ 24 < first + xs.length →
        Answers (.neighbourTableWrite h (.fits xs)) ⟨d, q⟩ fun t => OnlyAnswered d t ∧ Replied h 2 (.refused .range) t)
      ∧ (xs ≠ [] → first + xs.length ≤ 24 → neighbourFault first xs d = none →
        (∀ l r, (d.measLine l).round = some r → ∃ y ∈ r, y.2 = false ∧ y.1 ∈ measSet l d
          ∧ (y.1.val < first ∨ first + xs.length ≤ y.1.val)) →
        Answers (.neighbourTableWrite h (.fits xs)) ⟨d, q⟩ fun t =>
          (∀ i : Fin 24, t.entry i = match (if first ≤ i.val then xs[i.val - first]? else none) with
            | some x => (d.entry i).write x
            | none => d.entry i)
          ∧ (∀ l, t.measLine l = { d.measLine l with round := pruned t l })
          ∧ OnlyAnswered { d with meas := { d.meas with entries := t.meas.entries, lines := t.meas.lines } } t
          ∧ Replied h 2 .done t)
      ∧ ∀ r, xs ≠ [] → first + xs.length ≤ 24 → neighbourFault first xs d = some r →
        Answers (.neighbourTableWrite h (.fits xs)) ⟨d, q⟩ fun t => OnlyAnswered d t ∧ Replied h 2 (.refused r) t)
    ∧ (∀ (h : CmdHead) (i : Fin 24) (x : HostFields), Listening d → d.host.queue.length + 3 ≤ 48 →
      h.index.toNat = i.val →
      (d.meas.lock = none → h.target = 0 →
        (Answers (.lockRead h (.fits ())) ⟨d, q⟩ fun t =>
          OnlyAnswered { d with meas := { d.meas with lock := some ⟨i, d.meas.lockHold, none⟩ } } t
          ∧ Replied h 4 (.data (.entry ⟨d.entry i, true, none⟩)) t)
        ∧ Answers (.writeUnlock h (.fits x)) ⟨d, q⟩ fun t => OnlyAnswered d t ∧ Replied h 5 (.refused .locked) t)
      ∧ (∀ k, d.meas.lock = some k → k.entry = i →
        (h.target = 0 → neighbourFault i.val [x] d = none →
          (∀ l r, (d.measLine l).round = some r → ∃ y ∈ r, y.2 = false ∧ y.1 ∈ measSet l d ∧ y.1 ≠ i) →
          Answers (.writeUnlock h (.fits x)) ⟨d, q⟩ fun t =>
            t.meas.lock = none ∧ (∀ j, j ≠ i → t.entry j = d.entry j) ∧ OnlyAnswered { d with meas := t.meas } t
            ∧ Replied h 5 .done t
            ∧ ((∀ s, k.parked = some s → x.ownA = false ∧ x.ownB = false ∨ s.cell ≠ x.cell) →
              t.entry i = (d.entry i).write x ∧ ∀ l, t.measLine l = { d.measLine l with round := pruned t l })
            ∧ (∀ l, (t.measLine l).round = pruned t l)
            ∧ ∀ s, k.parked = some s → s.cell = x.cell → x.ownA = true ∨ x.ownB = true →
              t.entry i = (applySample i s (d.onEntry i (Entry.write x))).entry i)
        ∧ (∀ r, h.target = 0 → neighbourFault i.val [x] d = some r → k.parked = none →
          Answers (.writeUnlock h (.fits x)) ⟨d, q⟩ fun t =>
            OnlyAnswered { d with meas := { d.meas with lock := none } } t ∧ Replied h 5 (.refused r) t)
        ∧ (∀ body, body = .misfit ∨ h.target ≠ 0 →
          Answers (.writeUnlock h body) ⟨d, q⟩ fun t => OnlyAnswered d t ∧ Replied h 5 (.refused .range) t))
      ∧ ∀ k, d.meas.lock = some k → k.entry ≠ i → h.target = 0 →
        Answers (.writeUnlock h (.fits x)) ⟨d, q⟩ fun t =>
          t.meas.lock = none ∧ (t.cond .w7).on = true ∧ (t.cond .w7).events = satInc (d.cond .w7).events
          ∧ Replied h 5 (.refused .locked) t)
    ∧ ∀ k, d.inReset = false → d.meas.lock = some k → k.left = 0 →
      Answers .lockHoldExpiry ⟨d, q⟩ fun t =>
        let e := d.entry k.entry
        t.meas.lock = none ∧ (t.cond .w7).on = true ∧ (t.cond .w7).events = satInc (d.cond .w7).events
        ∧ (t.cond .w7).last = some (if e.own.a = true ∨ e.own.b = false then 1 else 2, k.entry.val)
        ∧ (∀ j, j ≠ k.entry → t.entry j = d.entry j) ∧ SameBlocks { d with meas := t.meas } t
        ∧ ((∀ s, k.parked = some s → s.cell ≠ e.cell) → t.entry k.entry = e)
        ∧ ∀ s, k.parked = some s → s.cell = e.cell → t.entry k.entry = (applySample k.entry s d).entry k.entry

/-! ### Moves (chapter 9) -/

/-- The target entry of a move (R152): the entry that holds the cell, with the line as owner and its bar lifted; or else the
lowest Free entry that is not locked, made Listed for the cell, owned by the line alone; or else an evicted one, which is not
locked, serves no line and is no entry of the other line's move: the lowest without a level, or else the first of the lowest
level; an evicted entry leaves the rounds that hold it. A MOVE-ORDER lacking a field raises W1; one of Line 0 is discarded; one
for a line that is not Connected, or to its serving cell, is counted as refused and raises W9; one that is taken while another
slot holds the radio makes its record in Waiting Grant, with the deadline clamped to 10..200, and takes the line into Moving with
its guards and timers frozen and its MOVE slot waiting (R151, R152; the line of the conditions' events is log entry 10). -/
def Obligations.MoveOrdersAreTaken : Prop :=
  (∀ (l : LineId) (c : Cell) (d : Device),
    let holds (i : Fin 24) : Prop := (d.entry i).state ≠ .free ∧ (d.entry i).cell = c
    let free (i : Fin 24) : Prop := (d.entry i).state = .free ∧ ∀ k, d.meas.lock = some k → k.entry ≠ i
    let fresh : Entry :=
      { cell := c, own := ⟨l == .a, l == .b⟩, ocn := ⟨0, 0⟩, qoff := 0, inIdle := true, inCall := true, state := .listed
        servingFor := ⟨false, false⟩, filter := none, level := none, quality := none, misses := 0, lastFrame := none
        penalty := none, bar := none, trig := ⟨⟨0, false, 0⟩, ⟨0, false, 0⟩⟩ }
    let eligible (i : Fin 24) : Prop := (∀ k, d.meas.lock = some k → k.entry ≠ i)
      ∧ (d.entry i).servingFor = ⟨false, false⟩
      ∧ ∀ m, d.moveRec l.other = some m → m.targetEntry ≠ i ∧ m.oldEntry ≠ i
    (∀ i, holds i → (∀ j, j < i → ¬ holds j) →
      let owned : Entry := { d.entry i with own := (d.entry i).own.upd l fun _ => true }
      ((d.entry i).state ≠ .barred → allocTarget l c d = some ⟨d.onEntry i fun _ => owned, i, none⟩)
      ∧ ((d.entry i).state = .barred →
        allocTarget l c d = some ⟨d.onEntry i fun _ =>
          { fresh with own := owned.own, ocn := owned.ocn, qoff := owned.qoff, inIdle := owned.inIdle, inCall := owned.inCall
                       servingFor := owned.servingFor }, i, none⟩))
    ∧ (∀ i, (∀ j, ¬ holds j) → free i → (∀ j, j < i → ¬ free j) →
      allocTarget l c d = some ⟨d.onEntry i fun _ => fresh, i, none⟩)
    ∧ ((∀ j, ¬ holds j) → (∀ j, ¬ free j) → ∀ i, eligible i →
      ((d.entry i).level = none → (∀ j, j < i → eligible j → (d.entry j).level ≠ none)) →
      (∀ n, (d.entry i).level = some n → ∀ j, eligible j → ∃ m, (d.entry j).level = some m ∧ (n < m ∨ n = m ∧ i ≤ j)) →
      (∀ k r, (d.measLine k).round = some r → ∃ x ∈ r, x.1 ≠ i ∧ x.2 = false) →
      ∃ x, allocTarget l c d = some ⟨x, i, some ⟨(d.entry i).cell, (d.entry i).own⟩⟩ ∧ x.entry i = fresh
        ∧ (∀ j, j ≠ i → x.entry j = d.entry j)
        ∧ (∀ k, x.measLine k = { d.measLine k with round := (d.measLine k).round.map fun r => r.filter fun y => y.1 ≠ i })
        ∧ (x.move.get l).counts = { (d.move.get l).counts with evictions := satInc (d.move.get l).counts.evictions }))
  ∧ ∀ (f : LinkFrame) (d : Device),
    (f.fields.cell = none ∨ f.fields.deadline = none → moveOrderMsg f d = raise .w1 f.line 0 d)
    ∧ ∀ c n, f.fields.cell = some c → f.fields.deadline = some n →
      (LineId.ofField f.line = none → moveOrderMsg f d = d)
      ∧ ∀ l, LineId.ofField f.line = some l →
        (d.lineState l ≠ .connected ∨ d.servingCell l = some c →
          moveOrderMsg f d = raise .w9 (LineId.toField (some l)) 0 { d with
            move := d.move.upd l fun m => { m with counts := { m.counts with ordersRefused := satInc m.counts.ordersRefused } } })
        ∧ ∀ s a k, d.lineState l = .connected → (d.line l).serving = some s → (d.entry s).cell ≠ c →
          allocTarget l c d = some a → d.arb.holder = some k → slotState d (slotOf .move l) = .idle →
          let t := moveOrderMsg f d
          t.lineState l = .moving ∧ t.line l.other = a.dev.line l.other
          ∧ t.moveRec l = some
            { kind := .handover, trigger := .order, phase := .waitingGrant, target := c, targetEntry := a.entry, oldEntry := s
              oldCell := (d.entry s).cell, deadline := (max 10 (min n 200)).toNat, extended := false
              evicted := a.evicted, voiceDiscarded := 0, fallbackCause := none, barredAtReady := false }
          ∧ (t.move.get l).counts
            = { (a.dev.move.get l).counts with handovers := satInc (a.dev.move.get l).counts.handovers }
          ∧ t.meas.entries = a.dev.meas.entries ∧ (t.measLine l).timer = .stopped
          ∧ (t.line l).radioLink = (d.line l).radioLink.freeze ∧ (t.line l).hold = (a.dev.line l).hold
          ∧ (∀ j r, d.call j = some r → t.call j = some { r with
              guard := match r.guard with
                | .running x => if r.line = l then .frozen x else .running x
                | g => g })
          ∧ (slotState t (slotOf .move l)).waits = true ∧ (slotState t (slotOf .traffic l)).waits = false
          ∧ t.text = d.text ∧ t.disp = d.disp

/-- The windows of a move. At a grant a record in Waiting Grant gives a TUNE to its target of the deadline's frames, at most 256,
and is Tuning; one in Fallback a TUNE to the old serving cell; without a record the slot declines. A window that ends, or a grant
that fails, before the proof sets Fallback of 50 frames and asks for the MOVE slot again. DEADLINE_EXPIRY of a move in Tuning or
Confirming whose slot is Active falls back with cause Deadline within its grant, by a follow-on TUNE to the old serving cell of
50 frames; so does a barred CELL-INFO of a reselection's target, with cause Target Barred, or at the READY where it came in
Granted (log entry 20). TUNE_EXTENSION: after 256 boundaries with deadline left, a follow-on TUNE to the target takes what is
left, at most 256 frames (R77, R153, R156). -/
def Obligations.MoveWindowsFollowOn : Prop :=
  (∀ (l : LineId) (d : Device),
    let i := slotOf .move l
    (d.moveRec l = none → ownerOrder i d = (d, none))
    ∧ ∀ m, d.moveRec l = some m →
      (m.phase = .waitingGrant →
        ownerOrder i d = (d.onMove l fun x => { x with record := some { m with phase := .tuning } },
          some ⟨.tune, BitVec.ofNat 8 (min m.deadline 256), .cell m.target⟩))
      ∧ (m.phase = .fallback → ownerOrder i d = (d, some ⟨.tune, BitVec.ofNat 8 (min m.deadline 256), .cell m.oldCell⟩))
      ∧ (m.phase = .tuning ∨ m.phase = .confirming → ∀ c,
        moveEnded l c d = requestSlot i (d.onMove l fun x =>
          { x with record := some { m with phase := .fallback, deadline := 50, extended := false, fallbackCause := some c
                                           barredAtReady := false } })))
  ∧ ∀ (d : Device) (q : List Instr) (l : LineId) (m : MoveRec) (h : Holder), d.inReset = false → d.moveRec l = some m →
    (m.phase = .tuning ∨ m.phase = .confirming) → d.arb.holder = some h → h.slot = slotOf .move l → h.phase = .active →
    let next (c : Cell) (n : Nat) (t : Device) : Prop :=
      t.arb.holder = some { h with phase := .granted, window := d.arb.nextWindow, length := n
                                   grantTimer := grantMs d.arb.code, count := 0, released := false }
      ∧ t.arb.nextWindow = d.arb.nextWindow + 1
      ∧ t.modem = { d.modem with
          orderLane := pushDropOldest 4 d.modem.orderLane
            ⟨LineId.toField (some l), 0, 0, .order ⟨.tune, d.arb.nextWindow, BitVec.ofNat 8 n, .cell c⟩⟩ }
      ∧ SameBlocks { d with arb := t.arb, modem := t.modem, move := t.move } t
      ∧ t.host = d.host ∧ t.sleep = d.sleep ∧ t.conds = d.conds
    let fallen (c : FallbackCause) (t : Device) : Prop := next m.oldCell 50 t
      ∧ t.moveRec l = some { m with phase := .fallback, deadline := 50, extended := false
                                    fallbackCause := some c, barredAtReady := false }
    (m.deadline = 0 → Answers (.deadlineExpiry l) ⟨d, q⟩ (fallen .deadline))
    ∧ (m.extended = false → 0 < m.deadline → 256 ≤ h.count →
      Answers (.tuneExtension l) ⟨d, q⟩ fun t =>
        next m.target (min m.deadline 256) t ∧ t.moveRec l = some { m with extended := true })
    ∧ (m.barredAtReady = true → fallen .targetBarred (moveOpened l d))
    ∧ ∀ (f : LinkFrame) n c g, LineId.ofField f.line = some l → m.kind = .reselect → d.lineState l = .camped →
      d.servingCell l ≠ some m.target → f.fields.cell = some m.target → f.fields.frameNo = some n →
      f.fields.barred = some true → f.fields.cycle = some c → f.fields.qhyst = some g →
      fallen .targetBarred (cellInfoMsg f d)

/-- The outcomes of a move whose MOVE slot holds the radio, on lines that fit, with room in the queue and the Device lane. A
handover in Tuning: the SYNC-FOUND of its target, which its target entry still holds, makes that entry the serving one, with
MOVE-DONE and a MOVE-RESULT Success; in Fallback: that of the old cell leaves that one serving, with MOVE-FAIL and Failed. Either
returns the line to Connected: its guards resume, and its records with release pending become Free, each with a CALL-STATE
Released of its cause. Were those all its records, the line goes on to Camped. A deferred stop takes effect last: the line is then
Stopping, with every record that stays Clearing for cause Stopped, or, were there none, Off with its notice. In Fallback
DEADLINE_EXPIRY loses the handover: Lost, F3, the calls freed, and Searching, or Off with a deferred stop. A reselection: the
SYNC-FOUND of its target is Confirming, and the target's clear CELL-INFO swaps the roles with Success; in Fallback the SYNC-FOUND
of the old cell bars the target where it serves no line, with Failed, and paging watches again; DEADLINE_EXPIRY is Lost with F4,
whose action Report leaves the line Lost. Any other SYNC-FOUND is passed over. The record is then absent (R54, R111, R123, R133,
R154 to R159, R161, R162; a record names the entry to bar, log entry 39; the order at a handover's end is log entry 31). -/
def Obligations.MovesHaveTheirOutcome : Prop :=
  ∀ (l : LineId) (d : Device) (m : MoveRec) (h : Holder), d.LinesFit → d.CellsFit → d.inReset = false →
    d.moveRec l = some m → d.arb.holder = some h → h.slot = slotOf .move l → h.phase ≠ .granted →
    (d.line l).servingBarred = false → d.host.queue.length + 24 ≤ 48 → d.modem.deviceLane.length < 8 →
    let result (code : MoveCode) (cause : MoveCause) (bar : Bool) (t : Device) : Prop :=
      ∃ n, (⟨LineId.toField (some l), .normal, n, .notice ⟨m.targetEntry.val, match m.kind with
        | .handover => .moveResult code m.target m.oldCell cause m.voiceDiscarded m.evicted
        | .reselect => .reselectResult code m.trigger m.target m.oldCell cause bar m.evicted⟩⟩ : HostFrame) ∈ t.host.queue
    let cause : MoveCause := match m.fallbackCause with
      | some c => .fallback c
      | none => .reached
    let sent (p : ModemPayload) (t : Device) : Prop :=
      (⟨LineId.toField (some l), 0, 255, p⟩ : ModemFrame) ∈ t.modem.deviceLane
    let counts (t : Device) (f : MoveCounts → MoveCounts) : Prop :=
      t.moveRec l = none ∧ (t.move.get l).counts = f (d.move.get l).counts
    let held : Prop := (d.entry m.targetEntry).cell = m.target ∧ (d.entry m.targetEntry).own.get l = true
      ∧ (d.entry m.targetEntry).state.live = true
    let serves (i : Fin 24) (t : Device) : Prop := (t.line l).serving = some i
      ∧ ∀ j, (t.entry j).servingFor.get l = decide (j = i)
    let notServing (t : Device) : Prop := (t.line l).serving = none ∧ ∀ j, (t.entry j).servingFor.get l = false
    let stopping : Prop := (d.line l).deferredStop = true
    let keeps (r : CallRec) : Prop := r.line ≠ l ∨ r.releasePending = none
    let onCall : Prop := (∃ j r, d.call j = some r ∧ r.line = l ∧ keeps r) ∨ ∀ j r, d.call j = some r → r.line ≠ l
    let resumed (r : CallRec) : CallRec := { r with
      guard := match r.guard with
        | .frozen x => if r.line = l then .running x else .frozen x
        | g => g }
    let cleared (r : CallRec) : CallRec :=
      if r.line = l ∧ r.state ≠ .clearing then
        { r with state := .clearing, clearing := some (.stopped, .device), guard := .running 5000, releasePending := none }
      else resumed r
    let kept (f : CallRec → CallRec) (t : Device) : Prop :=
      (∀ j r, d.call j = some r → keeps r → t.call j = some (f r))
      ∧ (∀ j, (∀ r, d.call j = some r → ¬ keeps r) → t.call j = none)
      ∧ ∀ j r c, d.call j = some r → r.line = l → r.releasePending = some c →
        ∃ n, (⟨LineId.toField (some l), .normal, n, .notice ⟨j.val,
          .callState .released (some r.dir) r.ref (some r.state) (some c) none⟩⟩ : HostFrame) ∈ t.host.queue
    let roundOf (t : Device) : Prop := (t.measLine l).round = some ((measSet l t).map fun i => (i, false))
    let returned (i : Fin 24) (t : Device) : Prop :=
      (t.line l).radioLink = .stopped ∧ (t.line l).deferredStop = false
      ∧ (¬ stopping → serves i t ∧ (t.line l).cycle = (d.line l).cycle ∧ (t.line l).qhyst = (d.line l).qhyst
        ∧ (t.line l).servingBarred = false ∧ roundOf t ∧ kept resumed t
        ∧ (∀ j, ((t.entry j).trig.get l).count = 0 ∧ ((t.entry j).trig.get l).triggered = false)
        ∧ (onCall → t.lineState l = .connected ∧ (t.line l).overrides = (d.line l).overrides
          ∧ (t.measLine l).timer = .running (d.params l).intervalG ∧ (t.measLine l).reportsSent = 0
          ∧ (t.measLine l).roundsSince = 0 ∧ (t.slot (slotOf .traffic l)).standing = true)
        ∧ (¬ onCall → t.lineState l = .camped ∧ (t.line l).overrides = none ∧ (t.line l).campedRounds = 0
          ∧ ((t.page l).state = .watching ↔ ∃ k, ((d.page l).identities.get k).valid = true)
          ∧ (t.slot (slotOf .traffic l)).standing = false))
      ∧ (stopping → notServing t ∧ (t.line l).overrides = none ∧ (t.page l).state = .off ∧ (t.measLine l).round = none
        ∧ (onCall → t.lineState l = .stopping ∧ kept cleared t)
        ∧ (¬ onCall → t.lineState l = .off ∧ (t.line l).hold = [] ∧ kept resumed t
          ∧ ∃ n k, (⟨LineId.toField (some l), .normal, n, .notice ⟨0, .lineState false (.off k)⟩⟩ : HostFrame) ∈ t.host.queue))
    (m.kind = .handover →
      (m.phase = .tuning → held →
        let t := moveSyncFound l m.target d
        returned m.targetEntry t ∧ sent (.moveDone m.target) t ∧ result .success .reached false t
        ∧ counts t fun n => { n with succeeded := satInc n.succeeded })
      ∧ (m.phase = .tuning → ∀ c, c ≠ m.target → moveSyncFound l c d = d)
      ∧ (m.phase = .fallback →
        (∀ c, m.fallbackCause = some c →
          let t := moveSyncFound l m.oldCell d
          returned m.oldEntry t ∧ sent (.moveFail m.target c) t ∧ result .failed cause false t
          ∧ counts t fun n => { n with fellBack := satInc n.fellBack })
        ∧ (∀ c, c ≠ m.oldCell → moveSyncFound l c d = d)
        ∧ ∀ q : List Instr, h.phase = .active → m.deadline = 0 →
          Answers (.deadlineExpiry l) ⟨d, q⟩ fun t =>
            t.lineState l = (if (d.line l).deferredStop then .off else .searching) ∧ notServing t
            ∧ (t.line l).lossCause = (if (d.line l).deferredStop then none else some .move)
            ∧ (t.line l).deferredStop = false
            ∧ (t.line l).hold = [] ∧ (t.line l).overrides = none ∧ (∀ j r, t.call j = some r → r.line ≠ l)
            ∧ (t.cond .f3).on = true ∧ (t.cond .f3).events = satInc (d.cond .f3).events ∧ result .lost cause false t
            ∧ counts t fun n => { n with handoversLost := satInc n.handoversLost }))
    ∧ (m.kind = .reselect →
      (m.phase = .tuning → moveSyncFound l m.target d
        = d.onMove l fun x => { x with record := some { m with phase := .confirming } })
      ∧ (m.phase = .tuning ∨ m.phase = .confirming → held → m.targetEntry ≠ m.oldEntry →
        ∀ (f : LinkFrame) n c g, LineId.ofField f.line = some l → f.fields.cell = some m.target →
          f.fields.frameNo = some n → f.fields.barred = some false → f.fields.cycle = some c → f.fields.qhyst = some g →
          let t := cellInfoMsg f d
          t.lineState l = .camped ∧ serves m.targetEntry t ∧ (t.line l).frame = n ∧ (t.line l).qhyst = some g
          ∧ (t.line l).cycle = some (min (d.params l).requestedCycle c) ∧ (t.line l).servingBarred = false
          ∧ (t.line l).campedRounds = 0 ∧ (t.page l).state = .watching ∧ result .success .reached false t
          ∧ counts t fun n => { n with reselSucceeded := satInc n.reselSucceeded })
      ∧ (m.phase = .fallback →
        (let t := moveSyncFound l m.oldCell d
        let e := d.entry m.targetEntry
        let bar : Bool := e.state.live && !e.servingFor.a && !e.servingFor.b
        (∀ k r, (d.measLine k).round = some r → ∃ x ∈ r, x.1 ≠ m.targetEntry ∧ x.2 = false ∧ x.1 ∈ measSet k d) →
        t.lineState l = .camped ∧ serves m.oldEntry t ∧ (t.page l).state = .watching ∧ result .failed cause bar t
        ∧ (∀ k, (t.measLine k).round = if bar then
            (d.measLine k).round.map fun r => r.filter fun x => decide (x.1 ∈ measSet k t)
          else (d.measLine k).round)
        ∧ (bar = true → (t.entry m.targetEntry).state = .barred
          ∧ (t.entry m.targetEntry).bar = some (1000 * (d.params l).barTime)
          ∧ (t.entry m.targetEntry).level = none ∧ (t.entry m.targetEntry).penalty = none)
        ∧ (bar = false → ((t.entry m.targetEntry).trig.get l).run = 0 ∧ (t.entry m.targetEntry).state = e.state)
        ∧ (∀ j, j ≠ m.targetEntry → t.entry j = d.entry j)
        ∧ counts t fun n => { n with reselFailed := satInc n.reselFailed })
        ∧ ∀ q : List Instr, h.phase = .active → m.deadline = 0 → (d.cond .f4).action = .report → ¬ stopping →
          Answers (.deadlineExpiry l) ⟨d, q⟩ fun t =>
            t.lineState l = .lost ∧ (t.line l).serving = none ∧ (t.line l).lossCause = some .sync ∧ (t.line l).hold = []
            ∧ (t.cond .f4).on = true ∧ (t.cond .f4).events = satInc (d.cond .f4).events
            ∧ (∀ j, (t.entry j).state = (d.entry j).state) ∧ result .lost cause false t
            ∧ counts t fun n => { n with reselLost := satInc n.reselLost }))

/-! ### Sleep (chapter 10) -/

/-- Sleep. IDLE_TIMER_EXPIRY with room in the queue offers sleep: Offered, with a SLEEP-OFFER of the settings. SLEEP_ENTER while
the idle condition holds is taken: the offers leave the queue, the entry is pending, the reasons and the last-sleep record are
emptied and the REPLY is Done; otherwise it is Refused, reason Busy, and changes nothing. WAKE_GUARD_EXPIRY wakes an Asleep host
that has a reason; MAX_SLEEP_EXPIRY adds the reason Timer, which wakes at once where no guard runs and waits where one does;
WAKE_RESPONSE_EXPIRY re-pulses WAKE, and the third one, with F5's action Report, raises F5 and starts the response timer no more.
A frame that joins the queue with room while the host is Asleep or Waking gives its reason, where it is Urgent and the reason's
enable is set, and Pressure, where the queue has reached the watermark; each stands in the set once. It wakes an Asleep host at
once by Pressure, or by a reason where no guard runs; otherwise it is recorded alone (R165 to R168, R171; the Line field 0 of a
REPLY is log entry 59). -/
def Obligations.SleepAndWake : Prop :=
  (∀ (d : Device) (q : List Instr),
    (∀ h : CmdHead, Commandable d → h.target = 0 → h.index = 0 →
      let idle : Prop := (∀ f ∈ d.host.queue, f.isSleepOffer = true)
        ∧ (∀ l, d.lineState l ≠ .connected ∧ d.lineState l ≠ .moving ∧ d.lineState l ≠ .stopping)
        ∧ (∀ k, d.call k = none) ∧ slotState d 12 = .idle
      (idle →
        Answers (.sleepEnter h (.fits ())) ⟨d, q⟩ fun t =>
          t.sleep.power = .awake ∧ t.sleep.entry = .waiting ∧ t.sleep.idle = none ∧ t.sleep.reasons = []
          ∧ t.sleep.lastSleep = none ∧ t.sleep.wake = (if d.sleep.power = .asleep ∨ d.sleep.power = .waking then false
            else d.sleep.wake)
          ∧ t.host.queue = [replyFrame h.tag 9 .done] ∧ SameBlocks d t ∧ SamePort d t ∧ t.conds = d.conds)
      ∧ (¬ idle →
        Answers (.sleepEnter h (.fits ())) ⟨d, q⟩ fun t => OnlyAnswered d t ∧ Replied h 9 (.refused .busy) t))
    ∧ (d.inReset = false →
      let woken (rs : List WakeReason) (t : Device) : Prop :=
        t.sleep = { d.sleep with power := .waking, wake := true, guard := none, maxSleep := none, repulses := 0
                                 repulse := none, response := some d.sleep.settings.responseTime, reasons := rs }
        ∧ t.host = d.host ∧ t.conds = d.conds ∧ SameBlocks d t
      (d.sleep.idle = some 0 → d.host.queue.length < 48 →
        Answers .idleTimerExpiry ⟨d, q⟩ fun t =>
          t.sleep = { d.sleep with idle := none, power := .offered } ∧ SameBlocks d t ∧ t.conds = d.conds
          ∧ t.host = { d.host with
              seq := d.host.seq + 1
              queue := d.host.queue ++ [⟨0, .normal, d.host.seq, .notice ⟨0, .sleepOffer d.sleep.settings.guardCode
                d.sleep.settings.maxSleep d.sleep.settings.enables⟩⟩] })
      ∧ (d.sleep.power = .asleep → d.sleep.guard = some 0 → d.sleep.reasons ≠ [] →
        Answers .wakeGuardExpiry ⟨d, q⟩ (woken d.sleep.reasons))
      ∧ (d.sleep.power = .asleep → d.sleep.guard = some 0 → d.sleep.reasons = [] →
        Answers .wakeGuardExpiry ⟨d, q⟩ fun t => t = { d with sleep := { d.sleep with guard := none } })
      ∧ (d.sleep.power = .asleep → d.sleep.maxSleep = some 0 → .timer ∉ d.sleep.reasons →
        (d.sleep.guard = none → Answers .maxSleepExpiry ⟨d, q⟩ (woken (d.sleep.reasons ++ [.timer])))
        ∧ (d.sleep.guard ≠ none →
          Answers .maxSleepExpiry ⟨d, q⟩ fun t =>
            t = { d with sleep := { d.sleep with maxSleep := none, reasons := d.sleep.reasons ++ [.timer] } }))
      ∧ (d.sleep.response = some 0 → d.sleep.repulses + 1 < 3 →
        Answers .wakeResponseExpiry ⟨d, q⟩ fun t =>
          t = { d with
            sleep := { d.sleep with wake := false, repulse := some 1, repulses := d.sleep.repulses + 1
                                    response := some d.sleep.settings.responseTime } })
      ∧ (d.sleep.power = .waking → d.sleep.response = some 0 → d.sleep.repulses = 2 → (d.cond .f5).action = .report →
        Answers .wakeResponseExpiry ⟨d, q⟩ fun t =>
          t.sleep.power = .waking ∧ t.sleep.response = none ∧ t.sleep.repulses = 3 ∧ t.sleep.repulse = some 1
          ∧ (t.cond .f5).on = true ∧ (t.cond .f5).events = satInc (d.cond .f5).events ∧ SameBlocks d t)))
  ∧ ∀ (f : HostFrame) (d : Device), d.sleep.power = .asleep ∨ d.sleep.power = .waking → d.host.queue.length < 48 →
    (f.cls = .bulk → ∀ c, c = .f1 ∨ c = .f2 → (d.cond c).on = false ∨ (d.cond c).action ≠ .quiet) →
    let notice : Bool := match f.payload with
      | .notice _ => true
      | _ => false
    let r : List HostFrame := d.host.queue
    let host : HostPort := { d.host with
      queue := if f.isReply then r.takeWhile HostFrame.isReply ++ f :: r.dropWhile HostFrame.isReply
        else r ++ [if notice then { f with tag := d.host.seq } else f]
      seq := if notice then d.host.seq + 1 else d.host.seq }
    let e := d.sleep.settings.enables
    let reason : Option (WakeReason × Bool) := match f.payload with
      | .delivered _ => some (.forwarded, e.forwarded)
      | .reply _ => none
      | .notice n => match n.body with
        | .callState .. => some (.call, e.call)
        | .text .. => some (.text, e.text)
        | .crossPage .. => some (.crossPage, e.crossPage)
        | .lineState .. => some (.line, e.line)
        | .condition .. => some (.fault, e.fault)
        | .servicePage .. => some (.forwarded, e.forwarded)
        | _ => none
    let add (x : WakeReason) (rs : List WakeReason) : List WakeReason := if x ∈ rs then rs else rs ++ [x]
    let given (x : WakeReason) : Prop := f.cls = .urgent ∧ reason = some (x, true)
    let pressed : Prop := d.sleep.settings.watermark ≤ d.host.queue.length + 1
    let joins (wakes : Prop) (rs : List WakeReason) : Prop :=
      let rs' := if pressed then add .pressure rs else rs
      let wakesNow : Prop := d.sleep.power = .asleep ∧ (pressed ∨ wakes ∧ d.sleep.guard = none)
      (wakesNow → offer f d = ({ d with
        host := host
        sleep := { d.sleep with power := .waking, wake := true, guard := none, maxSleep := none, repulses := 0
                                repulse := none, response := some d.sleep.settings.responseTime, reasons := rs' } }, true))
      ∧ (¬ wakesNow → offer f d = ({ d with host := host, sleep := { d.sleep with reasons := rs' } }, true))
    (∀ x, given x → joins True (add x d.sleep.reasons)) ∧ ((∀ x, ¬ given x) → joins False d.sleep.reasons)

/-! ### Commands (chapter 11) -/

/-- IDENTIFY changes no state and is answered Done with data: the product code, the revision, the capacities in the order of
the rule, and the last reset taken, which is Cold after Cold Reset and Warm after each Warm Reset (R175). -/
def Obligations.IdentifyAnswers : Prop :=
  (∀ (d : Device) (q : List Instr) (h : CmdHead), Commandable d → h.target = 0 → h.index = 0 →
    Answers (.identify h (.fits ())) ⟨d, q⟩ fun t =>
      OnlyAnswered d t
      ∧ Replied h 1 (.data (.identify 2240 1 [32, 48, 64, 24, 4, 8, 48, 13, 4, 4] d.lastReset)) t)
  ∧ (∀ s, Answers .coldReset s fun t => t.lastReset = .cold)
  ∧ (∀ (d : Device) (q : List Instr) (h : CmdHead), Listening d → h.target = 0 → h.index = 0 →
    Answers (.warmReset h (.fits ())) ⟨d, q⟩ fun t => t.lastReset = .warm)

/-- STATUS_READ, TABLE_READ and SLEEP_EXIT change no state of their own and are answered Done with data: each of the eight
sections as the state that R177 names; the items of each of the twelve tables, as the state that R176 names, from the index on, as
many as were asked for, or as many as the payload holds (log entry 4), with the sleep settings as the arrival left them; and the
record of the sleep that the command's arrival ended. Only a TABLE_READ of table 1 or 2 while a walk is in progress does more: the
walk ends first, after the arrival's effect and under the host power of its start (log entry 6). A TABLE_READ of a table outside
1..12 is refused with Unknown, one of no item or of items past the table's last with Range (Unknown where both hold: log entry
36). The line's section shows a lock as it stood, with the mark that this command split it, and the rest as the split left it (log
entry 58). CONDITIONS_READ reports every record as it stood and returns every Raised warning to Clear, with its count kept and no
fault changed; CONDITIONS_CLEAR from an Awake host unlatches each fault whose cause is not present, changes no warning, and
reports the faults still latched (R83, R170, R173, R176, R177, R181, R183). -/
def Obligations.ReadsReportTheState : Prop :=
  ∀ (d : Device) (q : List Instr) (h : CmdHead), Listening d → d.host.queue.length + 2 ≤ 48 →
    let number (l : LineId) : Byte := match l with
      | .a => 1
      | .b => 2
    let sectionOf (l : LineId) (lock : Option (Fin 24 × Nat)) (x : Device) : LineStatus :=
      let p := x.page l
      let offset : Option Nat := p.primary.bind fun i => (x.line l).cycle.map fun c => (p.identities.get i).value.toNat % c
      { line := x.line l, holdFill := (x.line l).hold.length, paging := p, offset := offset
        requestFrame := offset.bind fun o => (x.line l).cycle.map fun c =>
          (((o : Int) - (x.params l).listenLead) % (c : Int)).toNat
        text := x.text.counts.get l, calls := x.calls.counts.get l, measSet := measSet l x, meas := x.measLine l
        move := x.move.get l
        deadline := (x.moveRec l).map fun m =>
          if slotState x (slotOf .move l) = .active ∧ m.phase ≠ .waitingGrant then .running m.deadline else .frozen m.deadline
        lock := lock, split := lock.isSome }
    let shows (x : StatusData) : Prop :=
      Answers (.statusRead h (.fits ())) ⟨d, q⟩ fun t => OnlyAnswered d t ∧ Replied h 11 (.data (.status x)) t
    let fill (c : Cls) : Nat := d.host.queue.countP fun f => f.cls = c
    (d.meas.lock = none → h.index = 0 →
      (∀ l, h.target = number l → shows (.line (sectionOf l none d)))
      ∧ (h.target = 3 → d.sleep.settings.idleDelay ≠ 0 → shows (.ports
        { modem := ⟨d.modem.outCount, d.modem.lastCount, d.modem.lastError⟩
          host := ⟨d.host.outCount, some h.linkCount, d.host.lastError⟩
          intakeFill := d.modem.intake.length, pausing := d.modem.pausing
          urgent := fill .urgent, normal := fill .normal, bulk := fill .bulk, voiceFill := d.host.voice.length
          voiceLane := d.modem.voiceLane.length, orderLane := d.modem.orderLane.length
          deviceLane := d.modem.deviceLane.length, hostLane := d.modem.hostLane.length, pauseTimer := d.host.pauseTimer
          overflow := d.disp.overflow }))
      ∧ (h.target = 4 → shows (.radio ((indexes 13).map (slotState d)) d.arb.slots.toList d.arb.holder d.arb.nextWindow
        d.arb.pointer d.arb.mode))
      ∧ (h.target = 5 → shows (.texts d.freeSlots.length (d.text.order.filterMap fun r => (d.text? r).map fun x =>
        { number := r, state := x.state, line := x.line, sender := x.sender, total := x.total
          received := x.parts.map Prod.fst, age := x.age, timer := x.timer })))
      ∧ (h.target = 6 → shows (.calls d.calls.recs.toList))
      ∧ (h.target = 7 →
        Answers (.statusRead h (.fits ())) ⟨d, q⟩ fun t => OnlyAnswered d t
          ∧ ∃ x : SleepRec, Arrived d { d with sleep := x } ∧ Replied h 11 (.data (.status (.sleep x))) t)
      ∧ (h.target = 8 → shows (.conditions (Cond.all.map fun c => ⟨(d.cond c).on, (d.cond c).events, (d.cond c).last⟩)))
      ∧ (h.target = 0 ∨ 8 < h.target.toNat →
        Answers (.statusRead h (.fits ())) ⟨d, q⟩ fun t => OnlyAnswered d t ∧ Replied h 11 (.refused .range) t))
    ∧ (∀ l k, d.meas.lock = some k → k.parked = none → (d.cond .w7).on = true → h.index = 0 → h.target = number l →
      let e := d.entry k.entry
      let split : Device := ({ d with meas := { d.meas with lock := none } } : Device).onMeasLine
        (if e.own.a = true ∨ e.own.b = false then .a else .b) fun m =>
          { m with counts := { m.counts with splits := satInc m.counts.splits } }
      Answers (.statusRead h (.fits ())) ⟨d, q⟩ fun t =>
        t.meas = split.meas ∧ Replied h 11 (.data (.status (.line (sectionOf l
          (if e.own.get l = true ∨ l = .a ∧ e.own = ⟨false, false⟩ then some (k.entry, k.left) else none) split)))) t)
    ∧ (d.meas.lock = none →
      (∀ n : Nat,
        let items (s : SleepSettings) : List TableItem := match h.target.toNat with
          | 1 => (indexes 6).map (fun i => .entry (d.disp.entries.get i)) ++ [.entry ⟨none, .handle⟩]
          | 2 => (indexes 64).map fun i => .rule (d.disp.rules.get i)
          | 3 => (indexes 7).map (fun i => .cls (d.arb.classes.get i)) ++ [.settings d.arb.mode d.arb.code]
          | 4 => (indexes 24).map fun i => .neighbour ⟨d.entry i, false, none⟩
          | 5 => [.lockHold d.meas.lockHold]
          | 6 => [.ports d.modem.params]
          | 7 => [.sleep s]
          | 8 => [.w1, .w2, .w3, .w4, .w5, .w6, .w7, .w8, .w9].map (fun c => .cond (d.cond c).mask none)
            ++ [.f1, .f2, .f3, .f4, .f5, .f6].map fun c => .cond (d.cond c).mask (some (d.cond c).action)
          | 9 => (indexes 4).map fun i => .identity ((d.page .a).identities.get i)
          | 10 => (indexes 4).map fun i => .identity ((d.page .b).identities.get i)
          | 11 => (d.params .a).listed.map .param
          | 12 => (d.params .b).listed.map .param
          | _ => []
        let data (s : SleepSettings) (k : Nat) : ReplyOutcome :=
          .data (.items (((items s).drop h.index.toNat).take k).length (((items s).drop h.index.toNat).take k))
        let fits (s : SleepSettings) (k : Nat) : Prop := (HostPayload.reply ⟨3, data s k⟩).bytes.length ≤ 3072
        let there : Prop := 1 ≤ h.target.toNat ∧ h.target.toNat ≤ 12
        let bad : Prop := n = 0 ∨ (items d.sleep.settings).length < h.index.toNat + n
        let whole (t : Device) : Prop :=
          let s := t.sleep.settings
          ∃ k, k ≤ n ∧ (k = 0 ∨ fits s k) ∧ (∀ j, k < j → j ≤ n → ¬ fits s j) ∧ Replied h 3 (data s k) t
        let ofWalk : Prop := h.target = 1 ∨ h.target = 2
        (there → (ofWalk → d.disp.walking = none) →
          (¬ bad → Answers (.tableRead h (.fits n)) ⟨d, q⟩ fun t => OnlyAnswered d t ∧ whole t)
          ∧ (bad → Answers (.tableRead h (.fits n)) ⟨d, q⟩ fun t => OnlyAnswered d t ∧ Replied h 3 (.refused .range) t))
        ∧ (∀ w, ofWalk → d.disp.walking = some w →
          let e : Device := walkFrame .down w.power w.frame
            (hostAccepted h.linkCount { d with disp := { d.disp with walking := none } })
          e.host.queue.length < 48 →
          (¬ bad → Answers (.tableRead h (.fits n)) ⟨d, q⟩ fun t => OnlyReplied e t ∧ whole t)
          ∧ (bad → Answers (.tableRead h (.fits n)) ⟨d, q⟩ fun t => OnlyReplied e t ∧ Replied h 3 (.refused .range) t))
        ∧ (¬ there → Answers (.tableRead h (.fits n)) ⟨d, q⟩ fun t =>
          OnlyAnswered d t ∧ Replied h 3 (.refused .unknown) t))
      ∧ (h.target = 0 → h.index = 0 →
        (d.sleep.power = .asleep ∨ d.sleep.power = .waking →
          Answers (.sleepExit h (.fits ())) ⟨d, q⟩ fun t =>
            OnlyAnswered d t
            ∧ Replied h 10 (.data (.lastSleep (some ⟨d.sleep.reasons, d.sleep.repulses, min d.sleep.asleepMs 65535000⟩))) t)
        ∧ (d.sleep.power = .awake ∨ d.sleep.power = .offered →
          Answers (.sleepExit h (.fits ())) ⟨d, q⟩ fun t =>
            OnlyAnswered d t ∧ Replied h 10 (.data (.lastSleep d.sleep.lastSleep)) t)
        ∧ (Answers (.conditionsRead h (.fits ())) ⟨d, q⟩ fun t =>
          (∀ c, t.cond c = if c.isFault then d.cond c else { d.cond c with on := false })
          ∧ OnlyAnswered { d with conds := t.conds } t
          ∧ Replied h 12 (.data (.conditions (Cond.all.map fun c => ⟨(d.cond c).on, (d.cond c).events, (d.cond c).last⟩))) t)
        ∧ (d.sleep.power = .awake →
          Answers (.conditionsClear h (.fits ())) ⟨d, q⟩ fun t =>
            let lost (l : LineId) : Bool := (d.lineState l == .lost || d.lineState l == .searching)
              && (d.line l).lossCause == some .sync
            let present (c : Cond) : Bool := c == .f4 && (lost .a || lost .b)
            (∀ c, t.cond c = { d.cond c with on := (d.cond c).on && (!c.isFault || present c) })
            ∧ OnlyAnswered { d with conds := t.conds } t
            ∧ Replied h 13 (.data (.faults (Cond.all.filter fun c => c.isFault && present c && (d.cond c).on))) t)))

/-- Table writes of one item and of several. NEIGHBOUR_SETTINGS_WRITE, SLEEP_SETTINGS_WRITE, CONDITION_SETTINGS_WRITE,
IDENTITY_TABLE_WRITE of an Off line, LINE_PARAMETERS_WRITE, of which on a line that is not Off no item is a paging or search
parameter and whose numbers, fields and ranges are those of R40, R131, R153 and R176, and CLASS_TABLE_WRITE while a slot holds the
radio and none is deferred, take effect at once where every item is within its range, each item at its own number, leave the other
items, change nothing else, and are answered Done; a write of the idle mode or the Mixed threshold decides the schedule of a
Camped line again. Where one item fails, or the line must be Off and is not, the write is refused whole, with its reason,
LineActive before Range where both apply; a count of 0 and items past the table's last are refused with Range, before the line's
state is looked at (log entry 36; R40, R64, R82, R131, R134, R153, R164, R176, R184). -/
def Obligations.SettingWritesTakeEffect : Prop :=
  ∀ (d : Device) (q : List Instr) (h : CmdHead) (l : LineId), Commandable d →
    let refused (r : Reason) (t : Device) : Prop := OnlyAnswered d t ∧ Replied h 2 (.refused r) t
    let first : Nat := h.index.toNat
    let bad (size n : Nat) : Prop := n = 0 ∨ size < first + n
    (∀ n, h.target.toNat = 5 → h.index = 0 →
      Answers (.neighbourSettingsWrite h (.fits [n])) ⟨d, q⟩ fun t =>
        if 10 ≤ n ∧ n ≤ 255 then OnlyAnswered { d with meas := { d.meas with lockHold := n } } t ∧ Replied h 2 .done t
        else refused .range t)
    ∧ (∀ x : SleepSettings, h.target.toNat = 7 → h.index = 0 →
      Answers (.sleepSettingsWrite h (.fits [x])) ⟨d, q⟩ fun t =>
        if x.idleDelay ≤ 60000 ∧ x.guardCode ≤ 15 ∧ x.maxSleep ≤ 3600 ∧ 10 ≤ x.responseTime ∧ x.responseTime ≤ 5000
          ∧ 1 ≤ x.watermark ∧ x.watermark ≤ 48 then
          t.sleep.settings = x ∧ Replied h 2 .done t
          ∧ ∃ y, OnlyAnswered d { t with sleep := { t.sleep with settings := y } }
        else refused .range t)
    ∧ (∀ xs : List IdentityWrite, h.target.toNat = identityTable l →
      Answers (.identityTableWrite l h (.fits xs)) ⟨d, q⟩ fun t =>
        (bad 4 xs.length → refused .range t)
        ∧ (¬ bad 4 xs.length → d.lineState l ≠ .off → refused .lineActive t)
        ∧ (¬ bad 4 xs.length → d.lineState l = .off → (∃ x ∈ xs, x.kind = none) → refused .range t)
        ∧ (¬ bad 4 xs.length → d.lineState l = .off → (∀ x ∈ xs, x.kind ≠ none) →
          let ys : List Identity := xs.map fun x => ⟨x.value, x.kind.getD .permanent, x.valid⟩
          (∀ i : Fin 4, (t.page l).identities.get i = itemAfter first ys i.val ((d.page l).identities.get i))
          ∧ t.page l.other = d.page l.other ∧ OnlyAnswered { d with paging := t.paging } t
          ∧ { t.page l with identities := (d.page l).identities } = d.page l ∧ Replied h 2 .done t))
    ∧ (∀ xs : List ParamValue, h.target.toNat = parameterTable l →
      let has (i : Nat) : Prop := first ≤ i ∧ i < first + xs.length
      let ruled : Prop := d.lineState l ≠ .off ∧ (has 0 ∨ has 1 ∨ has 2 ∨ has 4 ∨ has 5)
      let fails : Prop := ∃ k v, xs[k]? = some v ∧ ¬ paramInRange (first + k) v
      Answers (.lineParametersWrite l h (.fits xs)) ⟨d, q⟩ fun t =>
        (bad 27 xs.length → refused .range t)
        ∧ (¬ bad 27 xs.length → ruled → refused .lineActive t)
        ∧ (¬ bad 27 xs.length → ¬ ruled → fails → refused .range t)
        ∧ (¬ bad 27 xs.length → ¬ ruled → ¬ fails →
          (t.params l).listed = (d.params l).listed.take first ++ xs ++ (d.params l).listed.drop (first + xs.length)
          ∧ t.line l = { d.line l with params := t.params l } ∧ t.line l.other = d.line l.other
          ∧ t.measLine l.other = d.measLine l.other ∧ Replied h 2 .done t
          ∧ (¬ has 10 → ¬ has 12 → OnlyAnswered { d with lines := t.lines } t)
          ∧ (d.lineState l ≠ .camped ∨ d.reselecting l = true → OnlyAnswered { d with lines := t.lines } t)
          ∧ (has 10 ∨ has 12 → d.lineState l = .camped → d.reselecting l = false →
            OnlyAnswered { d with lines := t.lines, meas := { d.meas with lines := t.meas.lines } } t
            ∧ t.measLine l = { d.measLine l with sched := (t.measLine l).sched, timer := (t.measLine l).timer }
            ∧ ((t.measLine l).sched = .cycleAligned ∨ (t.measLine l).sched = .interval)
            ∧ (∀ c, (d.line l).cycle = some c →
              ((t.measLine l).sched = .cycleAligned ↔ (d.page l).state = .watching
                ∧ ((t.params l).idleMode = .cycleAligned
                  ∨ (t.params l).idleMode = .mixed ∧ c ≤ (t.params l).mixedThreshold)))
            ∧ ((t.measLine l).timer = .stopped ↔ (t.measLine l).sched = .cycleAligned))))
    ∧ (∀ xs : List ClassItem, h.target.toNat = 3 → d.arb.holder ≠ none → (∀ j, (d.slot j).want ≠ .deferred) →
      let item (i : Nat) : Option ClassItem := if first ≤ i then xs[i - first]? else none
      let fits (i : Nat) (x : ClassItem) : Prop := match x with
        | .cls lv rel _ => i < 7 ∧ lv ≤ 3 ∧ rel ≠ none
        | .settings mode code => i = 7 ∧ mode ≠ none ∧ code ≤ 7
      Answers (.classTableWrite h (.fits xs)) ⟨d, q⟩ fun t =>
        (bad 8 xs.length ∨ (∃ i x, item i = some x ∧ ¬ fits i x) → refused .range t)
        ∧ (¬ bad 8 xs.length → (∀ i x, item i = some x → fits i x) →
          (∀ i : Fin 7, t.arb.classes.get i = match item i.val with
            | some (.cls lv (some rel) fair) => ⟨lv, rel, fair⟩
            | _ => d.arb.classes.get i)
          ∧ (t.arb.mode, t.arb.code) = (match item 7 with
            | some (.settings (some mode) code) => (mode, code)
            | _ => (d.arb.mode, d.arb.code))
          ∧ OnlyAnswered { d with arb := { d.arb with classes := t.arb.classes, mode := t.arb.mode, code := t.arb.code } } t
          ∧ Replied h 2 .done t))
    ∧ ∀ xs : List CondItem, h.target.toNat = 8 →
      let item (c : Cond) : Option CondItem := if first ≤ c.index.val then xs[c.index.val - first]? else none
      let allowed (c : Cond) (a : Option FaultAction) : Prop := match c with
        | .f1 | .f2 => a = some .report ∨ a = some .quiet
        | .f3 => a = some .report
        | .f4 => a = some .search ∨ a = some .stop ∨ a = some .report
        | .f5 | .f6 => a = some .report ∨ a = some .stopLines
        | _ => a = none
      Answers (.conditionSettingsWrite h (.fits xs)) ⟨d, q⟩ fun t =>
        (bad 15 xs.length ∨ (∃ c x, item c = some x ∧ ¬ allowed c x.action) → refused .range t)
        ∧ (¬ bad 15 xs.length → (∀ c x, item c = some x → allowed c x.action) →
          (∀ c, t.cond c = match item c with
            | some x => { d.cond c with mask := x.mask, action := x.action.getD (d.cond c).action }
            | none => d.cond c)
          ∧ OnlyAnswered { d with conds := t.conds } t ∧ Replied h 2 .done t)

/-- PORT_PARAMETERS_WRITE. Within its ranges (pause-on 1..32, pause-off 0..31 and below pause-on, pause time 1..65535) it acts at
once against the present fill: PAUSE 0 and Not Pausing where Pausing and the fill is at or below the new pause-off; PAUSE and
Pausing where Not Pausing and the fill is at or above the new pause-on; otherwise the pause state and its timer stay as they are.
A full Device lane loses the PAUSE. With a value out of its range, or pause-off not below pause-on, it is refused whole with Range
and changes nothing. The Line field of the PAUSE, which no rule gives, is left open (R6, R9, R13). -/
def Obligations.PortParametersActAtOnce : Prop :=
  ∀ (d : Device) (q : List Instr) (h : CmdHead) (p : PortParams), Commandable d → h.target.toNat = 6 → h.index = 0 →
    let fits : Prop := 1 ≤ p.pauseOn ∧ p.pauseOn ≤ 32 ∧ p.pauseOff ≤ 31 ∧ p.pauseOff < p.pauseOn ∧ 1 ≤ p.pauseTime
      ∧ p.pauseTime ≤ 65535
    let laneWith (f : ModemFrame) : List ModemFrame :=
      if d.modem.deviceLane.length < 8 then d.modem.deviceLane ++ [f] else d.modem.deviceLane
    (fits → Answers (.portParametersWrite h (.fits [p])) ⟨d, q⟩ fun t =>
      Replied h 2 .done t ∧ OnlyAnswered { d with modem := t.modem } t ∧
      (if d.modem.pausing ≠ none ∧ d.modem.intake.length ≤ p.pauseOff then
        ∃ line, t.modem = { d.modem with params := p, pausing := none, deviceLane := laneWith ⟨line, 0, 0, .pause 0⟩ }
      else if d.modem.pausing = none ∧ p.pauseOn ≤ d.modem.intake.length then
        ∃ line, t.modem = { d.modem with
          params := p, pausing := some (10 * p.pauseTime)
          deviceLane := laneWith ⟨line, 0, 0, .pause (BitVec.ofNat 16 p.pauseTime)⟩ }
      else t.modem = { d.modem with params := p }))
    ∧ (¬ fits → Answers (.portParametersWrite h (.fits [p])) ⟨d, q⟩ fun t =>
      OnlyAnswered d t ∧ Replied h 2 (.refused .range) t)

/-- RADIO_BORROW while slot 12 is Idle and another slot holds the radio: its order is kept for the grant, slot 12 waits, and no
REPLY joins the queue yet; while slot 12 is not Idle it is Refused, reason Busy. FORCE_PAUSE: one PAUSE with the carried time in
the Device lane, with Line 0 (log entry 60), whatever the pause state, or Refused, reason Busy, where that lane is full. An
unknown COMMAND changes no state and is Refused, reason Unknown, with the number that the rules give its REPLY (R10, R80, R174,
R176). -/
def Obligations.BorrowForcePauseAndUnknown : Prop :=
  ∀ (d : Device) (q : List Instr) (h : CmdHead), Commandable d →
    (h.target = 0 → h.index = 0 →
      (∀ (n : Byte) (bytes : List Byte) (k : Holder), slotState d 12 = .idle → d.arb.holder = some k →
        Answers (.radioBorrow h (.fits (n, bytes))) ⟨d, q⟩ fun t =>
          t.arb.borrow = some ⟨h.tag, n, bytes⟩ ∧ (slotState t 12).waits = true
          ∧ (∀ i, i ≠ 12 → (t.slot i).want = (d.slot i).want) ∧ t.arb.nextWindow = d.arb.nextWindow
          ∧ SameBlocks { d with arb := t.arb, modem := { d.modem with orderLane := t.modem.orderLane } } t
          ∧ SamePort d t ∧ t.conds = d.conds ∧ Arrived d t
          ∧ t.host.queue.filter HostFrame.isReply = d.host.queue.filter HostFrame.isReply)
      ∧ (∀ (n : Byte) (bytes : List Byte), slotState d 12 ≠ .idle →
        Answers (.radioBorrow h (.fits (n, bytes))) ⟨d, q⟩ fun t => OnlyAnswered d t ∧ Replied h 8 (.refused .busy) t)
      ∧ (∀ time : Half, d.modem.deviceLane.length < 8 →
        Answers (.forcePause h (.fits time)) ⟨d, q⟩ fun t =>
          OnlyAnswered { d with modem := { d.modem with deviceLane := d.modem.deviceLane ++ [⟨0, 0, 0, .pause time⟩] } } t
          ∧ Replied h 14 .done t)
      ∧ (∀ time : Half, 8 ≤ d.modem.deviceLane.length →
        Answers (.forcePause h (.fits time)) ⟨d, q⟩ fun t => OnlyAnswered d t ∧ Replied h 14 (.refused .busy) t))
    ∧ ∀ why : Unknown, Answers (.unknownCommand h why) ⟨d, q⟩ fun t =>
      OnlyAnswered d t
      ∧ Replied h (match why with
          | .shortHead => 0
          | .number n => n
          | .table _ => 2) (.refused .unknown) t
end

