-- ==== Sys2Proof/Laws/State.lean ====
section
/-! SUPPORT. One lemma per block per update of the part, and the laws of pairs and tables: what later proofs use in place of
unfolding a record update. -/

namespace Sys2Proof

/-! ### Pairs and tables -/

namespace Pair
variable {α : Type}

@[simp] theorem get_a (p : Pair α) : p.get .a = p.a := rfl
@[simp] theorem get_b (p : Pair α) : p.get .b = p.b := rfl
@[simp] theorem upd_a_a (p : Pair α) (f : α → α) : (p.upd .a f).a = f p.a := rfl
@[simp] theorem upd_a_b (p : Pair α) (f : α → α) : (p.upd .a f).b = p.b := rfl
@[simp] theorem upd_b_a (p : Pair α) (f : α → α) : (p.upd .b f).a = p.a := rfl
@[simp] theorem upd_b_b (p : Pair α) (f : α → α) : (p.upd .b f).b = f p.b := rfl
@[simp] theorem both_get (x : α) (l : LineId) : (Pair.both x).get l = x := by cases l <;> rfl
@[simp] theorem get_upd_same (p : Pair α) (l : LineId) (f : α → α) : (p.upd l f).get l = f (p.get l) := by cases l <;> rfl
@[simp] theorem get_upd_other (p : Pair α) (l : LineId) (f : α → α) : (p.upd l f).get l.other = p.get l.other := by
  cases l <;> rfl
@[simp] theorem get_upd_of_other (p : Pair α) (l : LineId) (f : α → α) : (p.upd l.other f).get l = p.get l := by
  cases l <;> rfl

theorem get_upd (p : Pair α) (l k : LineId) (f : α → α) : (p.upd l f).get k = if k = l then f (p.get k) else p.get k := by
  cases l <;> cases k <;> rfl

/-- Two pairs agree when both lines do. -/
theorem ext_get {p q : Pair α} (h : ∀ l, p.get l = q.get l) : p = q := by
  cases p; cases q
  have ha := h .a
  have hb := h .b
  simp_all [Pair.get]

@[simp] theorem upd_id (p : Pair α) (l : LineId) : p.upd l (fun x => x) = p := by cases l <;> rfl

end Pair

namespace Tab
variable {α : Type} {n : Nat}

@[simp] theorem get_upd_same (t : Tab α n) (i : Fin n) (f : α → α) : (Tab.upd t i f).get i = f (t.get i) := by
  simp [Tab.upd, Tab.get]

theorem get_upd (t : Tab α n) (i j : Fin n) (f : α → α) :
    (Tab.upd t i f).get j = if j = i then f (t.get j) else t.get j := by
  by_cases h : j = i
  · subst h; simp
  · have h' : ¬ i.val = j.val := fun e => h (Fin.ext e.symm)
    simp [Tab.upd, Tab.get, h, h']

@[simp] theorem get_all (t : Tab α n) (f : α → α) (i : Fin n) : (Tab.all t f).get i = f (t.get i) := by
  simp [Tab.all, Tab.get]

@[simp] theorem get_fill (x : α) (i : Fin n) : (Tab.fill x : Tab α n).get i = x := by simp [Tab.fill, Tab.get]

/-- Two tables agree when every item does. -/
theorem ext_get {s t : Tab α n} (h : ∀ i, s.get i = t.get i) : s = t := by
  apply Vector.ext
  intro i hi
  exact h ⟨i, hi⟩

end Tab

@[simp] theorem LineId.other_other (l : LineId) : l.other.other = l := by cases l <;> rfl
@[simp] theorem LineId.other_ne (l : LineId) : l.other ≠ l := by cases l <;> decide
@[simp] theorem LineId.ofField_toField (l : LineId) : LineId.ofField (LineId.toField (some l)) = some l := by
  cases l <;> rfl

namespace Machine

/-! ### One lemma per block per update -/

namespace Device

@[simp] theorem onModem_inReset (f : ModemPort → ModemPort) (d : Device) : (d.onModem f).inReset = d.inReset := rfl
@[simp] theorem onModem_lastReset (f : ModemPort → ModemPort) (d : Device) : (d.onModem f).lastReset = d.lastReset := rfl
@[simp] theorem onModem_modem (f : ModemPort → ModemPort) (d : Device) : (d.onModem f).modem = f d.modem := rfl
@[simp] theorem onModem_host (f : ModemPort → ModemPort) (d : Device) : (d.onModem f).host = d.host := rfl
@[simp] theorem onModem_disp (f : ModemPort → ModemPort) (d : Device) : (d.onModem f).disp = d.disp := rfl
@[simp] theorem onModem_lines (f : ModemPort → ModemPort) (d : Device) : (d.onModem f).lines = d.lines := rfl
@[simp] theorem onModem_arb (f : ModemPort → ModemPort) (d : Device) : (d.onModem f).arb = d.arb := rfl
@[simp] theorem onModem_paging (f : ModemPort → ModemPort) (d : Device) : (d.onModem f).paging = d.paging := rfl
@[simp] theorem onModem_text (f : ModemPort → ModemPort) (d : Device) : (d.onModem f).text = d.text := rfl
@[simp] theorem onModem_calls (f : ModemPort → ModemPort) (d : Device) : (d.onModem f).calls = d.calls := rfl
@[simp] theorem onModem_meas (f : ModemPort → ModemPort) (d : Device) : (d.onModem f).meas = d.meas := rfl
@[simp] theorem onModem_move (f : ModemPort → ModemPort) (d : Device) : (d.onModem f).move = d.move := rfl
@[simp] theorem onModem_sleep (f : ModemPort → ModemPort) (d : Device) : (d.onModem f).sleep = d.sleep := rfl
@[simp] theorem onModem_conds (f : ModemPort → ModemPort) (d : Device) : (d.onModem f).conds = d.conds := rfl

@[simp] theorem onHost_inReset (f : HostPort → HostPort) (d : Device) : (d.onHost f).inReset = d.inReset := rfl
@[simp] theorem onHost_lastReset (f : HostPort → HostPort) (d : Device) : (d.onHost f).lastReset = d.lastReset := rfl
@[simp] theorem onHost_modem (f : HostPort → HostPort) (d : Device) : (d.onHost f).modem = d.modem := rfl
@[simp] theorem onHost_host (f : HostPort → HostPort) (d : Device) : (d.onHost f).host = f d.host := rfl
@[simp] theorem onHost_disp (f : HostPort → HostPort) (d : Device) : (d.onHost f).disp = d.disp := rfl
@[simp] theorem onHost_lines (f : HostPort → HostPort) (d : Device) : (d.onHost f).lines = d.lines := rfl
@[simp] theorem onHost_arb (f : HostPort → HostPort) (d : Device) : (d.onHost f).arb = d.arb := rfl
@[simp] theorem onHost_paging (f : HostPort → HostPort) (d : Device) : (d.onHost f).paging = d.paging := rfl
@[simp] theorem onHost_text (f : HostPort → HostPort) (d : Device) : (d.onHost f).text = d.text := rfl
@[simp] theorem onHost_calls (f : HostPort → HostPort) (d : Device) : (d.onHost f).calls = d.calls := rfl
@[simp] theorem onHost_meas (f : HostPort → HostPort) (d : Device) : (d.onHost f).meas = d.meas := rfl
@[simp] theorem onHost_move (f : HostPort → HostPort) (d : Device) : (d.onHost f).move = d.move := rfl
@[simp] theorem onHost_sleep (f : HostPort → HostPort) (d : Device) : (d.onHost f).sleep = d.sleep := rfl
@[simp] theorem onHost_conds (f : HostPort → HostPort) (d : Device) : (d.onHost f).conds = d.conds := rfl

@[simp] theorem onDisp_inReset (f : Dispatcher → Dispatcher) (d : Device) : (d.onDisp f).inReset = d.inReset := rfl
@[simp] theorem onDisp_lastReset (f : Dispatcher → Dispatcher) (d : Device) : (d.onDisp f).lastReset = d.lastReset := rfl
@[simp] theorem onDisp_modem (f : Dispatcher → Dispatcher) (d : Device) : (d.onDisp f).modem = d.modem := rfl
@[simp] theorem onDisp_host (f : Dispatcher → Dispatcher) (d : Device) : (d.onDisp f).host = d.host := rfl
@[simp] theorem onDisp_disp (f : Dispatcher → Dispatcher) (d : Device) : (d.onDisp f).disp = f d.disp := rfl
@[simp] theorem onDisp_lines (f : Dispatcher → Dispatcher) (d : Device) : (d.onDisp f).lines = d.lines := rfl
@[simp] theorem onDisp_arb (f : Dispatcher → Dispatcher) (d : Device) : (d.onDisp f).arb = d.arb := rfl
@[simp] theorem onDisp_paging (f : Dispatcher → Dispatcher) (d : Device) : (d.onDisp f).paging = d.paging := rfl
@[simp] theorem onDisp_text (f : Dispatcher → Dispatcher) (d : Device) : (d.onDisp f).text = d.text := rfl
@[simp] theorem onDisp_calls (f : Dispatcher → Dispatcher) (d : Device) : (d.onDisp f).calls = d.calls := rfl
@[simp] theorem onDisp_meas (f : Dispatcher → Dispatcher) (d : Device) : (d.onDisp f).meas = d.meas := rfl
@[simp] theorem onDisp_move (f : Dispatcher → Dispatcher) (d : Device) : (d.onDisp f).move = d.move := rfl
@[simp] theorem onDisp_sleep (f : Dispatcher → Dispatcher) (d : Device) : (d.onDisp f).sleep = d.sleep := rfl
@[simp] theorem onDisp_conds (f : Dispatcher → Dispatcher) (d : Device) : (d.onDisp f).conds = d.conds := rfl

@[simp] theorem onLine_inReset (l : LineId) (f : LineRec → LineRec) (d : Device) : (d.onLine l f).inReset = d.inReset := rfl
@[simp] theorem onLine_lastReset (l : LineId) (f : LineRec → LineRec) (d : Device) : (d.onLine l f).lastReset = d.lastReset := rfl
@[simp] theorem onLine_modem (l : LineId) (f : LineRec → LineRec) (d : Device) : (d.onLine l f).modem = d.modem := rfl
@[simp] theorem onLine_host (l : LineId) (f : LineRec → LineRec) (d : Device) : (d.onLine l f).host = d.host := rfl
@[simp] theorem onLine_disp (l : LineId) (f : LineRec → LineRec) (d : Device) : (d.onLine l f).disp = d.disp := rfl
@[simp] theorem onLine_lines (l : LineId) (f : LineRec → LineRec) (d : Device) : (d.onLine l f).lines = d.lines.upd l f := rfl
@[simp] theorem onLine_arb (l : LineId) (f : LineRec → LineRec) (d : Device) : (d.onLine l f).arb = d.arb := rfl
@[simp] theorem onLine_paging (l : LineId) (f : LineRec → LineRec) (d : Device) : (d.onLine l f).paging = d.paging := rfl
@[simp] theorem onLine_text (l : LineId) (f : LineRec → LineRec) (d : Device) : (d.onLine l f).text = d.text := rfl
@[simp] theorem onLine_calls (l : LineId) (f : LineRec → LineRec) (d : Device) : (d.onLine l f).calls = d.calls := rfl
@[simp] theorem onLine_meas (l : LineId) (f : LineRec → LineRec) (d : Device) : (d.onLine l f).meas = d.meas := rfl
@[simp] theorem onLine_move (l : LineId) (f : LineRec → LineRec) (d : Device) : (d.onLine l f).move = d.move := rfl
@[simp] theorem onLine_sleep (l : LineId) (f : LineRec → LineRec) (d : Device) : (d.onLine l f).sleep = d.sleep := rfl
@[simp] theorem onLine_conds (l : LineId) (f : LineRec → LineRec) (d : Device) : (d.onLine l f).conds = d.conds := rfl

@[simp] theorem onArb_inReset (f : Arbiter → Arbiter) (d : Device) : (d.onArb f).inReset = d.inReset := rfl
@[simp] theorem onArb_lastReset (f : Arbiter → Arbiter) (d : Device) : (d.onArb f).lastReset = d.lastReset := rfl
@[simp] theorem onArb_modem (f : Arbiter → Arbiter) (d : Device) : (d.onArb f).modem = d.modem := rfl
@[simp] theorem onArb_host (f : Arbiter → Arbiter) (d : Device) : (d.onArb f).host = d.host := rfl
@[simp] theorem onArb_disp (f : Arbiter → Arbiter) (d : Device) : (d.onArb f).disp = d.disp := rfl
@[simp] theorem onArb_lines (f : Arbiter → Arbiter) (d : Device) : (d.onArb f).lines = d.lines := rfl
@[simp] theorem onArb_arb (f : Arbiter → Arbiter) (d : Device) : (d.onArb f).arb = f d.arb := rfl
@[simp] theorem onArb_paging (f : Arbiter → Arbiter) (d : Device) : (d.onArb f).paging = d.paging := rfl
@[simp] theorem onArb_text (f : Arbiter → Arbiter) (d : Device) : (d.onArb f).text = d.text := rfl
@[simp] theorem onArb_calls (f : Arbiter → Arbiter) (d : Device) : (d.onArb f).calls = d.calls := rfl
@[simp] theorem onArb_meas (f : Arbiter → Arbiter) (d : Device) : (d.onArb f).meas = d.meas := rfl
@[simp] theorem onArb_move (f : Arbiter → Arbiter) (d : Device) : (d.onArb f).move = d.move := rfl
@[simp] theorem onArb_sleep (f : Arbiter → Arbiter) (d : Device) : (d.onArb f).sleep = d.sleep := rfl
@[simp] theorem onArb_conds (f : Arbiter → Arbiter) (d : Device) : (d.onArb f).conds = d.conds := rfl

@[simp] theorem onPaging_inReset (l : LineId) (f : PagingRec → PagingRec) (d : Device) : (d.onPaging l f).inReset = d.inReset := rfl
@[simp] theorem onPaging_lastReset (l : LineId) (f : PagingRec → PagingRec) (d : Device) : (d.onPaging l f).lastReset = d.lastReset := rfl
@[simp] theorem onPaging_modem (l : LineId) (f : PagingRec → PagingRec) (d : Device) : (d.onPaging l f).modem = d.modem := rfl
@[simp] theorem onPaging_host (l : LineId) (f : PagingRec → PagingRec) (d : Device) : (d.onPaging l f).host = d.host := rfl
@[simp] theorem onPaging_disp (l : LineId) (f : PagingRec → PagingRec) (d : Device) : (d.onPaging l f).disp = d.disp := rfl
@[simp] theorem onPaging_lines (l : LineId) (f : PagingRec → PagingRec) (d : Device) : (d.onPaging l f).lines = d.lines := rfl
@[simp] theorem onPaging_arb (l : LineId) (f : PagingRec → PagingRec) (d : Device) : (d.onPaging l f).arb = d.arb := rfl
@[simp] theorem onPaging_paging (l : LineId) (f : PagingRec → PagingRec) (d : Device) : (d.onPaging l f).paging = d.paging.upd l f := rfl
@[simp] theorem onPaging_text (l : LineId) (f : PagingRec → PagingRec) (d : Device) : (d.onPaging l f).text = d.text := rfl
@[simp] theorem onPaging_calls (l : LineId) (f : PagingRec → PagingRec) (d : Device) : (d.onPaging l f).calls = d.calls := rfl
@[simp] theorem onPaging_meas (l : LineId) (f : PagingRec → PagingRec) (d : Device) : (d.onPaging l f).meas = d.meas := rfl
@[simp] theorem onPaging_move (l : LineId) (f : PagingRec → PagingRec) (d : Device) : (d.onPaging l f).move = d.move := rfl
@[simp] theorem onPaging_sleep (l : LineId) (f : PagingRec → PagingRec) (d : Device) : (d.onPaging l f).sleep = d.sleep := rfl
@[simp] theorem onPaging_conds (l : LineId) (f : PagingRec → PagingRec) (d : Device) : (d.onPaging l f).conds = d.conds := rfl

@[simp] theorem onText_inReset (f : TextUnit → TextUnit) (d : Device) : (d.onText f).inReset = d.inReset := rfl
@[simp] theorem onText_lastReset (f : TextUnit → TextUnit) (d : Device) : (d.onText f).lastReset = d.lastReset := rfl
@[simp] theorem onText_modem (f : TextUnit → TextUnit) (d : Device) : (d.onText f).modem = d.modem := rfl
@[simp] theorem onText_host (f : TextUnit → TextUnit) (d : Device) : (d.onText f).host = d.host := rfl
@[simp] theorem onText_disp (f : TextUnit → TextUnit) (d : Device) : (d.onText f).disp = d.disp := rfl
@[simp] theorem onText_lines (f : TextUnit → TextUnit) (d : Device) : (d.onText f).lines = d.lines := rfl
@[simp] theorem onText_arb (f : TextUnit → TextUnit) (d : Device) : (d.onText f).arb = d.arb := rfl
@[simp] theorem onText_paging (f : TextUnit → TextUnit) (d : Device) : (d.onText f).paging = d.paging := rfl
@[simp] theorem onText_text (f : TextUnit → TextUnit) (d : Device) : (d.onText f).text = f d.text := rfl
@[simp] theorem onText_calls (f : TextUnit → TextUnit) (d : Device) : (d.onText f).calls = d.calls := rfl
@[simp] theorem onText_meas (f : TextUnit → TextUnit) (d : Device) : (d.onText f).meas = d.meas := rfl
@[simp] theorem onText_move (f : TextUnit → TextUnit) (d : Device) : (d.onText f).move = d.move := rfl
@[simp] theorem onText_sleep (f : TextUnit → TextUnit) (d : Device) : (d.onText f).sleep = d.sleep := rfl
@[simp] theorem onText_conds (f : TextUnit → TextUnit) (d : Device) : (d.onText f).conds = d.conds := rfl

@[simp] theorem onCalls_inReset (f : CallUnit → CallUnit) (d : Device) : (d.onCalls f).inReset = d.inReset := rfl
@[simp] theorem onCalls_lastReset (f : CallUnit → CallUnit) (d : Device) : (d.onCalls f).lastReset = d.lastReset := rfl
@[simp] theorem onCalls_modem (f : CallUnit → CallUnit) (d : Device) : (d.onCalls f).modem = d.modem := rfl
@[simp] theorem onCalls_host (f : CallUnit → CallUnit) (d : Device) : (d.onCalls f).host = d.host := rfl
@[simp] theorem onCalls_disp (f : CallUnit → CallUnit) (d : Device) : (d.onCalls f).disp = d.disp := rfl
@[simp] theorem onCalls_lines (f : CallUnit → CallUnit) (d : Device) : (d.onCalls f).lines = d.lines := rfl
@[simp] theorem onCalls_arb (f : CallUnit → CallUnit) (d : Device) : (d.onCalls f).arb = d.arb := rfl
@[simp] theorem onCalls_paging (f : CallUnit → CallUnit) (d : Device) : (d.onCalls f).paging = d.paging := rfl
@[simp] theorem onCalls_text (f : CallUnit → CallUnit) (d : Device) : (d.onCalls f).text = d.text := rfl
@[simp] theorem onCalls_calls (f : CallUnit → CallUnit) (d : Device) : (d.onCalls f).calls = f d.calls := rfl
@[simp] theorem onCalls_meas (f : CallUnit → CallUnit) (d : Device) : (d.onCalls f).meas = d.meas := rfl
@[simp] theorem onCalls_move (f : CallUnit → CallUnit) (d : Device) : (d.onCalls f).move = d.move := rfl
@[simp] theorem onCalls_sleep (f : CallUnit → CallUnit) (d : Device) : (d.onCalls f).sleep = d.sleep := rfl
@[simp] theorem onCalls_conds (f : CallUnit → CallUnit) (d : Device) : (d.onCalls f).conds = d.conds := rfl

@[simp] theorem onMeas_inReset (f : MeasUnit → MeasUnit) (d : Device) : (d.onMeas f).inReset = d.inReset := rfl
@[simp] theorem onMeas_lastReset (f : MeasUnit → MeasUnit) (d : Device) : (d.onMeas f).lastReset = d.lastReset := rfl
@[simp] theorem onMeas_modem (f : MeasUnit → MeasUnit) (d : Device) : (d.onMeas f).modem = d.modem := rfl
@[simp] theorem onMeas_host (f : MeasUnit → MeasUnit) (d : Device) : (d.onMeas f).host = d.host := rfl
@[simp] theorem onMeas_disp (f : MeasUnit → MeasUnit) (d : Device) : (d.onMeas f).disp = d.disp := rfl
@[simp] theorem onMeas_lines (f : MeasUnit → MeasUnit) (d : Device) : (d.onMeas f).lines = d.lines := rfl
@[simp] theorem onMeas_arb (f : MeasUnit → MeasUnit) (d : Device) : (d.onMeas f).arb = d.arb := rfl
@[simp] theorem onMeas_paging (f : MeasUnit → MeasUnit) (d : Device) : (d.onMeas f).paging = d.paging := rfl
@[simp] theorem onMeas_text (f : MeasUnit → MeasUnit) (d : Device) : (d.onMeas f).text = d.text := rfl
@[simp] theorem onMeas_calls (f : MeasUnit → MeasUnit) (d : Device) : (d.onMeas f).calls = d.calls := rfl
@[simp] theorem onMeas_meas (f : MeasUnit → MeasUnit) (d : Device) : (d.onMeas f).meas = f d.meas := rfl
@[simp] theorem onMeas_move (f : MeasUnit → MeasUnit) (d : Device) : (d.onMeas f).move = d.move := rfl
@[simp] theorem onMeas_sleep (f : MeasUnit → MeasUnit) (d : Device) : (d.onMeas f).sleep = d.sleep := rfl
@[simp] theorem onMeas_conds (f : MeasUnit → MeasUnit) (d : Device) : (d.onMeas f).conds = d.conds := rfl

@[simp] theorem onMove_inReset (l : LineId) (f : MoveLine → MoveLine) (d : Device) : (d.onMove l f).inReset = d.inReset := rfl
@[simp] theorem onMove_lastReset (l : LineId) (f : MoveLine → MoveLine) (d : Device) : (d.onMove l f).lastReset = d.lastReset := rfl
@[simp] theorem onMove_modem (l : LineId) (f : MoveLine → MoveLine) (d : Device) : (d.onMove l f).modem = d.modem := rfl
@[simp] theorem onMove_host (l : LineId) (f : MoveLine → MoveLine) (d : Device) : (d.onMove l f).host = d.host := rfl
@[simp] theorem onMove_disp (l : LineId) (f : MoveLine → MoveLine) (d : Device) : (d.onMove l f).disp = d.disp := rfl
@[simp] theorem onMove_lines (l : LineId) (f : MoveLine → MoveLine) (d : Device) : (d.onMove l f).lines = d.lines := rfl
@[simp] theorem onMove_arb (l : LineId) (f : MoveLine → MoveLine) (d : Device) : (d.onMove l f).arb = d.arb := rfl
@[simp] theorem onMove_paging (l : LineId) (f : MoveLine → MoveLine) (d : Device) : (d.onMove l f).paging = d.paging := rfl
@[simp] theorem onMove_text (l : LineId) (f : MoveLine → MoveLine) (d : Device) : (d.onMove l f).text = d.text := rfl
@[simp] theorem onMove_calls (l : LineId) (f : MoveLine → MoveLine) (d : Device) : (d.onMove l f).calls = d.calls := rfl
@[simp] theorem onMove_meas (l : LineId) (f : MoveLine → MoveLine) (d : Device) : (d.onMove l f).meas = d.meas := rfl
@[simp] theorem onMove_move (l : LineId) (f : MoveLine → MoveLine) (d : Device) : (d.onMove l f).move = d.move.upd l f := rfl
@[simp] theorem onMove_sleep (l : LineId) (f : MoveLine → MoveLine) (d : Device) : (d.onMove l f).sleep = d.sleep := rfl
@[simp] theorem onMove_conds (l : LineId) (f : MoveLine → MoveLine) (d : Device) : (d.onMove l f).conds = d.conds := rfl

@[simp] theorem onSleep_inReset (f : SleepRec → SleepRec) (d : Device) : (d.onSleep f).inReset = d.inReset := rfl
@[simp] theorem onSleep_lastReset (f : SleepRec → SleepRec) (d : Device) : (d.onSleep f).lastReset = d.lastReset := rfl
@[simp] theorem onSleep_modem (f : SleepRec → SleepRec) (d : Device) : (d.onSleep f).modem = d.modem := rfl
@[simp] theorem onSleep_host (f : SleepRec → SleepRec) (d : Device) : (d.onSleep f).host = d.host := rfl
@[simp] theorem onSleep_disp (f : SleepRec → SleepRec) (d : Device) : (d.onSleep f).disp = d.disp := rfl
@[simp] theorem onSleep_lines (f : SleepRec → SleepRec) (d : Device) : (d.onSleep f).lines = d.lines := rfl
@[simp] theorem onSleep_arb (f : SleepRec → SleepRec) (d : Device) : (d.onSleep f).arb = d.arb := rfl
@[simp] theorem onSleep_paging (f : SleepRec → SleepRec) (d : Device) : (d.onSleep f).paging = d.paging := rfl
@[simp] theorem onSleep_text (f : SleepRec → SleepRec) (d : Device) : (d.onSleep f).text = d.text := rfl
@[simp] theorem onSleep_calls (f : SleepRec → SleepRec) (d : Device) : (d.onSleep f).calls = d.calls := rfl
@[simp] theorem onSleep_meas (f : SleepRec → SleepRec) (d : Device) : (d.onSleep f).meas = d.meas := rfl
@[simp] theorem onSleep_move (f : SleepRec → SleepRec) (d : Device) : (d.onSleep f).move = d.move := rfl
@[simp] theorem onSleep_sleep (f : SleepRec → SleepRec) (d : Device) : (d.onSleep f).sleep = f d.sleep := rfl
@[simp] theorem onSleep_conds (f : SleepRec → SleepRec) (d : Device) : (d.onSleep f).conds = d.conds := rfl

@[simp] theorem onCond_inReset (c : Cond) (f : CondRec → CondRec) (d : Device) : (d.onCond c f).inReset = d.inReset := rfl
@[simp] theorem onCond_lastReset (c : Cond) (f : CondRec → CondRec) (d : Device) : (d.onCond c f).lastReset = d.lastReset := rfl
@[simp] theorem onCond_modem (c : Cond) (f : CondRec → CondRec) (d : Device) : (d.onCond c f).modem = d.modem := rfl
@[simp] theorem onCond_host (c : Cond) (f : CondRec → CondRec) (d : Device) : (d.onCond c f).host = d.host := rfl
@[simp] theorem onCond_disp (c : Cond) (f : CondRec → CondRec) (d : Device) : (d.onCond c f).disp = d.disp := rfl
@[simp] theorem onCond_lines (c : Cond) (f : CondRec → CondRec) (d : Device) : (d.onCond c f).lines = d.lines := rfl
@[simp] theorem onCond_arb (c : Cond) (f : CondRec → CondRec) (d : Device) : (d.onCond c f).arb = d.arb := rfl
@[simp] theorem onCond_paging (c : Cond) (f : CondRec → CondRec) (d : Device) : (d.onCond c f).paging = d.paging := rfl
@[simp] theorem onCond_text (c : Cond) (f : CondRec → CondRec) (d : Device) : (d.onCond c f).text = d.text := rfl
@[simp] theorem onCond_calls (c : Cond) (f : CondRec → CondRec) (d : Device) : (d.onCond c f).calls = d.calls := rfl
@[simp] theorem onCond_meas (c : Cond) (f : CondRec → CondRec) (d : Device) : (d.onCond c f).meas = d.meas := rfl
@[simp] theorem onCond_move (c : Cond) (f : CondRec → CondRec) (d : Device) : (d.onCond c f).move = d.move := rfl
@[simp] theorem onCond_sleep (c : Cond) (f : CondRec → CondRec) (d : Device) : (d.onCond c f).sleep = d.sleep := rfl
@[simp] theorem onCond_conds (c : Cond) (f : CondRec → CondRec) (d : Device) : (d.onCond c f).conds = d.conds.upd c.index f := rfl

end Device

/-! ### Reads of a line after an update -/

namespace Device

@[simp] theorem line_onLine_same (l : LineId) (f : LineRec → LineRec) (d : Device) : (d.onLine l f).line l = f (d.line l) := by
  simp [Device.line]
@[simp] theorem line_onLine_other (l : LineId) (f : LineRec → LineRec) (d : Device) :
    (d.onLine l f).line l.other = d.line l.other := by simp [Device.line]
@[simp] theorem moveRec_onMove_same (l : LineId) (f : MoveLine → MoveLine) (d : Device) :
    (d.onMove l f).moveRec l = (f (d.move.get l)).record := by simp [Device.moveRec]
@[simp] theorem entry_onEntry_same (i : Fin 24) (f : Entry → Entry) (d : Device) : (d.onEntry i f).entry i = f (d.entry i) := by
  simp [Device.entry, Device.onEntry]
theorem entry_onEntry (i j : Fin 24) (f : Entry → Entry) (d : Device) :
    (d.onEntry i f).entry j = if j = i then f (d.entry j) else d.entry j := by
  simp [Device.entry, Device.onEntry, Tab.get_upd]
theorem slot_onSlot (i j : Fin 13) (f : Slot → Slot) (d : Device) :
    (d.onSlot i f).slot j = if j = i then f (d.slot j) else d.slot j := by
  simp [Device.slot, Device.onSlot, Tab.get_upd]
theorem call_onCall (t u : Fin 4) (f : Option CallRec → Option CallRec) (d : Device) :
    (d.onCall t f).call u = if u = t then f (d.call u) else d.call u := by
  simp [Device.call, Device.onCall, Tab.get_upd]

end Device

end Machine

end Sys2Proof
end

