-- ==== Sys2Proof/Laws/Host.lean ====
section
/-! SUPPORT. What the host-bound side does: an offer, an event, a reply or an idle-condition event changes the Host Port, the
Sleep Controller and the conditions alone, and the Host-bound Queue keeps its capacity. -/

namespace Sys2Proof.Machine

/-- The part without its host-bound side: what an offer cannot change. -/
def Device.sansHost (d : Device) : Device := { d with host := default, sleep := default, conds := default }

@[simp] theorem onHost_sansHost (f : HostPort → HostPort) (d : Device) : (d.onHost f).sansHost = d.sansHost := rfl
@[simp] theorem onSleep_sansHost (f : SleepRec → SleepRec) (d : Device) : (d.onSleep f).sansHost = d.sansHost := rfl
@[simp] theorem onCond_sansHost (c : Cond) (f : CondRec → CondRec) (d : Device) : (d.onCond c f).sansHost = d.sansHost := rfl

@[simp] theorem idleBreaks_sansHost (d : Device) : (idleBreaks d).sansHost = d.sansHost := by
  unfold idleBreaks; split <;> rfl

@[simp] theorem wakeHost_sansHost (d : Device) : (wakeHost d).sansHost = d.sansHost := rfl

@[simp] theorem addReason_sansHost (r : WakeReason) (d : Device) : (addReason r d).sansHost = d.sansHost := by
  unfold addReason; dsimp only; split <;> simp

@[simp] theorem wakeReport_sansHost (f : HostFrame) (d : Device) : (wakeReport f d).sansHost = d.sansHost := by
  unfold wakeReport; dsimp only; repeat' split
  all_goals simp

@[simp] theorem joinQueue_sansHost (f : HostFrame) (q : List HostFrame) (d : Device) :
    (joinQueue f q d).sansHost = d.sansHost := by
  unfold joinQueue; dsimp only; rw [wakeReport_sansHost]; repeat' split
  all_goals simp

@[simp] theorem offerRaw_sansHost (f : HostFrame) (d : Device) : (offerRaw f d).1.sansHost = d.sansHost := by
  unfold offerRaw; dsimp only; repeat' split
  all_goals simp

@[simp] theorem recordEvent_sansHost (c : Cond) (line : BitVec 2) (subject : Nat) (d : Device) :
    (recordEvent c line subject d).sansHost = d.sansHost := rfl

/-- What an offer that gave a result leaves unchanged. -/
theorem offerRaw_sansHost_of {f : HostFrame} {d t : Device} {r : OfferResult} (h : offerRaw f d = (t, r)) :
    t.sansHost = d.sansHost := by rw [← offerRaw_sansHost f d, h]

@[simp] theorem overflowEvent_sansHost (line : BitVec 2) (d : Device) : (overflowEvent line d).sansHost = d.sansHost := by
  unfold overflowEvent; dsimp only; repeat' split
  all_goals (try simp)
  all_goals (rename_i h; rw [offerRaw_sansHost_of h]; simp)

@[simp] theorem offer_sansHost (f : HostFrame) (d : Device) : (offer f d).1.sansHost = d.sansHost := by
  unfold offer; repeat' split
  all_goals (try simp)
  all_goals (rename_i h; exact offerRaw_sansHost_of h)

@[simp] theorem notify_sansHost (line : Option LineId) (subject : Nat) (body : NoticeBody) (d : Device) :
    (notify line subject body d).sansHost = d.sansHost := offer_sansHost _ d

@[simp] theorem raise_sansHost (c : Cond) (line : BitVec 2) (subject : Nat) (d : Device) :
    (raise c line subject d).sansHost = d.sansHost := by
  unfold raise; dsimp only; split <;> simp

@[simp] theorem startIdle_sansHost (d : Device) : (startIdle d).sansHost = d.sansHost := by
  unfold startIdle offerSleep; dsimp only; repeat' split
  all_goals simp

@[simp] theorem restartIdle_sansHost (d : Device) : (restartIdle d).sansHost = d.sansHost := by
  unfold restartIdle; split <;> simp

@[simp] theorem idleEvent_sansHost (b : Bool) (d : Device) : (idleEvent b d).sansHost = d.sansHost := by
  unfold idleEvent; repeat' split
  all_goals simp

@[simp] theorem withIdle_sansHost (f : Device → Device) (d : Device) : (withIdle f d).sansHost = (f d).sansHost := by
  simp [withIdle]

@[simp] theorem hostArrival_sansHost (d : Device) : (hostArrival d).sansHost = d.sansHost := by
  unfold hostArrival exitSleep; split <;> simp

@[simp] theorem hostAccepted_sansHost (count : Half) (d : Device) : (hostAccepted count d).sansHost = d.sansHost := by
  simp [hostAccepted]

@[simp] theorem reply_sansHost (h : CmdHead) (n : Byte) (o : ReplyOutcome) (d : Device) :
    (reply h n o d).sansHost = d.sansHost := offer_sansHost _ d

@[simp] theorem lineNotice_sansHost (l : LineId) (code : LineNotice) (d : Device) :
    (lineNotice l code d).sansHost = d.sansHost := notify_sansHost _ _ _ d

/-! ### The same, block by block -/

theorem inReset_of_sansHost {d t : Device} (h : t.sansHost = d.sansHost) : t.inReset = d.inReset :=
  show t.sansHost.inReset = d.sansHost.inReset by rw [h]
theorem lastReset_of_sansHost {d t : Device} (h : t.sansHost = d.sansHost) : t.lastReset = d.lastReset :=
  show t.sansHost.lastReset = d.sansHost.lastReset by rw [h]
theorem modem_of_sansHost {d t : Device} (h : t.sansHost = d.sansHost) : t.modem = d.modem :=
  show t.sansHost.modem = d.sansHost.modem by rw [h]
theorem disp_of_sansHost {d t : Device} (h : t.sansHost = d.sansHost) : t.disp = d.disp :=
  show t.sansHost.disp = d.sansHost.disp by rw [h]
theorem lines_of_sansHost {d t : Device} (h : t.sansHost = d.sansHost) : t.lines = d.lines :=
  show t.sansHost.lines = d.sansHost.lines by rw [h]
theorem arb_of_sansHost {d t : Device} (h : t.sansHost = d.sansHost) : t.arb = d.arb :=
  show t.sansHost.arb = d.sansHost.arb by rw [h]
theorem paging_of_sansHost {d t : Device} (h : t.sansHost = d.sansHost) : t.paging = d.paging :=
  show t.sansHost.paging = d.sansHost.paging by rw [h]
theorem text_of_sansHost {d t : Device} (h : t.sansHost = d.sansHost) : t.text = d.text :=
  show t.sansHost.text = d.sansHost.text by rw [h]
theorem calls_of_sansHost {d t : Device} (h : t.sansHost = d.sansHost) : t.calls = d.calls :=
  show t.sansHost.calls = d.sansHost.calls by rw [h]
theorem meas_of_sansHost {d t : Device} (h : t.sansHost = d.sansHost) : t.meas = d.meas :=
  show t.sansHost.meas = d.sansHost.meas by rw [h]
theorem move_of_sansHost {d t : Device} (h : t.sansHost = d.sansHost) : t.move = d.move :=
  show t.sansHost.move = d.sansHost.move by rw [h]

@[simp] theorem offer_inReset (f : HostFrame) (d : Device) : (offer f d).1.inReset = d.inReset :=
  inReset_of_sansHost (offer_sansHost f d)
@[simp] theorem offer_lastReset (f : HostFrame) (d : Device) : (offer f d).1.lastReset = d.lastReset :=
  lastReset_of_sansHost (offer_sansHost f d)
@[simp] theorem offer_modem (f : HostFrame) (d : Device) : (offer f d).1.modem = d.modem :=
  modem_of_sansHost (offer_sansHost f d)
@[simp] theorem offer_disp (f : HostFrame) (d : Device) : (offer f d).1.disp = d.disp :=
  disp_of_sansHost (offer_sansHost f d)
@[simp] theorem offer_lines (f : HostFrame) (d : Device) : (offer f d).1.lines = d.lines :=
  lines_of_sansHost (offer_sansHost f d)
@[simp] theorem offer_arb (f : HostFrame) (d : Device) : (offer f d).1.arb = d.arb :=
  arb_of_sansHost (offer_sansHost f d)
@[simp] theorem offer_paging (f : HostFrame) (d : Device) : (offer f d).1.paging = d.paging :=
  paging_of_sansHost (offer_sansHost f d)
@[simp] theorem offer_text (f : HostFrame) (d : Device) : (offer f d).1.text = d.text :=
  text_of_sansHost (offer_sansHost f d)
@[simp] theorem offer_calls (f : HostFrame) (d : Device) : (offer f d).1.calls = d.calls :=
  calls_of_sansHost (offer_sansHost f d)
@[simp] theorem offer_meas (f : HostFrame) (d : Device) : (offer f d).1.meas = d.meas :=
  meas_of_sansHost (offer_sansHost f d)
@[simp] theorem offer_move (f : HostFrame) (d : Device) : (offer f d).1.move = d.move :=
  move_of_sansHost (offer_sansHost f d)

@[simp] theorem notify_inReset (line : Option LineId) (subject : Nat) (body : NoticeBody) (d : Device) : (notify line subject body d).inReset = d.inReset :=
  inReset_of_sansHost (notify_sansHost line subject body d)
@[simp] theorem notify_lastReset (line : Option LineId) (subject : Nat) (body : NoticeBody) (d : Device) : (notify line subject body d).lastReset = d.lastReset :=
  lastReset_of_sansHost (notify_sansHost line subject body d)
@[simp] theorem notify_modem (line : Option LineId) (subject : Nat) (body : NoticeBody) (d : Device) : (notify line subject body d).modem = d.modem :=
  modem_of_sansHost (notify_sansHost line subject body d)
@[simp] theorem notify_disp (line : Option LineId) (subject : Nat) (body : NoticeBody) (d : Device) : (notify line subject body d).disp = d.disp :=
  disp_of_sansHost (notify_sansHost line subject body d)
@[simp] theorem notify_lines (line : Option LineId) (subject : Nat) (body : NoticeBody) (d : Device) : (notify line subject body d).lines = d.lines :=
  lines_of_sansHost (notify_sansHost line subject body d)
@[simp] theorem notify_arb (line : Option LineId) (subject : Nat) (body : NoticeBody) (d : Device) : (notify line subject body d).arb = d.arb :=
  arb_of_sansHost (notify_sansHost line subject body d)
@[simp] theorem notify_paging (line : Option LineId) (subject : Nat) (body : NoticeBody) (d : Device) : (notify line subject body d).paging = d.paging :=
  paging_of_sansHost (notify_sansHost line subject body d)
@[simp] theorem notify_text (line : Option LineId) (subject : Nat) (body : NoticeBody) (d : Device) : (notify line subject body d).text = d.text :=
  text_of_sansHost (notify_sansHost line subject body d)
@[simp] theorem notify_calls (line : Option LineId) (subject : Nat) (body : NoticeBody) (d : Device) : (notify line subject body d).calls = d.calls :=
  calls_of_sansHost (notify_sansHost line subject body d)
@[simp] theorem notify_meas (line : Option LineId) (subject : Nat) (body : NoticeBody) (d : Device) : (notify line subject body d).meas = d.meas :=
  meas_of_sansHost (notify_sansHost line subject body d)
@[simp] theorem notify_move (line : Option LineId) (subject : Nat) (body : NoticeBody) (d : Device) : (notify line subject body d).move = d.move :=
  move_of_sansHost (notify_sansHost line subject body d)

@[simp] theorem raise_inReset (c : Cond) (line : BitVec 2) (subject : Nat) (d : Device) : (raise c line subject d).inReset = d.inReset :=
  inReset_of_sansHost (raise_sansHost c line subject d)
@[simp] theorem raise_lastReset (c : Cond) (line : BitVec 2) (subject : Nat) (d : Device) : (raise c line subject d).lastReset = d.lastReset :=
  lastReset_of_sansHost (raise_sansHost c line subject d)
@[simp] theorem raise_modem (c : Cond) (line : BitVec 2) (subject : Nat) (d : Device) : (raise c line subject d).modem = d.modem :=
  modem_of_sansHost (raise_sansHost c line subject d)
@[simp] theorem raise_disp (c : Cond) (line : BitVec 2) (subject : Nat) (d : Device) : (raise c line subject d).disp = d.disp :=
  disp_of_sansHost (raise_sansHost c line subject d)
@[simp] theorem raise_lines (c : Cond) (line : BitVec 2) (subject : Nat) (d : Device) : (raise c line subject d).lines = d.lines :=
  lines_of_sansHost (raise_sansHost c line subject d)
@[simp] theorem raise_arb (c : Cond) (line : BitVec 2) (subject : Nat) (d : Device) : (raise c line subject d).arb = d.arb :=
  arb_of_sansHost (raise_sansHost c line subject d)
@[simp] theorem raise_paging (c : Cond) (line : BitVec 2) (subject : Nat) (d : Device) : (raise c line subject d).paging = d.paging :=
  paging_of_sansHost (raise_sansHost c line subject d)
@[simp] theorem raise_text (c : Cond) (line : BitVec 2) (subject : Nat) (d : Device) : (raise c line subject d).text = d.text :=
  text_of_sansHost (raise_sansHost c line subject d)
@[simp] theorem raise_calls (c : Cond) (line : BitVec 2) (subject : Nat) (d : Device) : (raise c line subject d).calls = d.calls :=
  calls_of_sansHost (raise_sansHost c line subject d)
@[simp] theorem raise_meas (c : Cond) (line : BitVec 2) (subject : Nat) (d : Device) : (raise c line subject d).meas = d.meas :=
  meas_of_sansHost (raise_sansHost c line subject d)
@[simp] theorem raise_move (c : Cond) (line : BitVec 2) (subject : Nat) (d : Device) : (raise c line subject d).move = d.move :=
  move_of_sansHost (raise_sansHost c line subject d)

@[simp] theorem startIdle_inReset (d : Device) : (startIdle d).inReset = d.inReset :=
  inReset_of_sansHost (startIdle_sansHost d)
@[simp] theorem startIdle_lastReset (d : Device) : (startIdle d).lastReset = d.lastReset :=
  lastReset_of_sansHost (startIdle_sansHost d)
@[simp] theorem startIdle_modem (d : Device) : (startIdle d).modem = d.modem :=
  modem_of_sansHost (startIdle_sansHost d)
@[simp] theorem startIdle_disp (d : Device) : (startIdle d).disp = d.disp :=
  disp_of_sansHost (startIdle_sansHost d)
@[simp] theorem startIdle_lines (d : Device) : (startIdle d).lines = d.lines :=
  lines_of_sansHost (startIdle_sansHost d)
@[simp] theorem startIdle_arb (d : Device) : (startIdle d).arb = d.arb :=
  arb_of_sansHost (startIdle_sansHost d)
@[simp] theorem startIdle_paging (d : Device) : (startIdle d).paging = d.paging :=
  paging_of_sansHost (startIdle_sansHost d)
@[simp] theorem startIdle_text (d : Device) : (startIdle d).text = d.text :=
  text_of_sansHost (startIdle_sansHost d)
@[simp] theorem startIdle_calls (d : Device) : (startIdle d).calls = d.calls :=
  calls_of_sansHost (startIdle_sansHost d)
@[simp] theorem startIdle_meas (d : Device) : (startIdle d).meas = d.meas :=
  meas_of_sansHost (startIdle_sansHost d)
@[simp] theorem startIdle_move (d : Device) : (startIdle d).move = d.move :=
  move_of_sansHost (startIdle_sansHost d)

@[simp] theorem restartIdle_inReset (d : Device) : (restartIdle d).inReset = d.inReset :=
  inReset_of_sansHost (restartIdle_sansHost d)
@[simp] theorem restartIdle_lastReset (d : Device) : (restartIdle d).lastReset = d.lastReset :=
  lastReset_of_sansHost (restartIdle_sansHost d)
@[simp] theorem restartIdle_modem (d : Device) : (restartIdle d).modem = d.modem :=
  modem_of_sansHost (restartIdle_sansHost d)
@[simp] theorem restartIdle_disp (d : Device) : (restartIdle d).disp = d.disp :=
  disp_of_sansHost (restartIdle_sansHost d)
@[simp] theorem restartIdle_lines (d : Device) : (restartIdle d).lines = d.lines :=
  lines_of_sansHost (restartIdle_sansHost d)
@[simp] theorem restartIdle_arb (d : Device) : (restartIdle d).arb = d.arb :=
  arb_of_sansHost (restartIdle_sansHost d)
@[simp] theorem restartIdle_paging (d : Device) : (restartIdle d).paging = d.paging :=
  paging_of_sansHost (restartIdle_sansHost d)
@[simp] theorem restartIdle_text (d : Device) : (restartIdle d).text = d.text :=
  text_of_sansHost (restartIdle_sansHost d)
@[simp] theorem restartIdle_calls (d : Device) : (restartIdle d).calls = d.calls :=
  calls_of_sansHost (restartIdle_sansHost d)
@[simp] theorem restartIdle_meas (d : Device) : (restartIdle d).meas = d.meas :=
  meas_of_sansHost (restartIdle_sansHost d)
@[simp] theorem restartIdle_move (d : Device) : (restartIdle d).move = d.move :=
  move_of_sansHost (restartIdle_sansHost d)

@[simp] theorem idleEvent_inReset (b : Bool) (d : Device) : (idleEvent b d).inReset = d.inReset :=
  inReset_of_sansHost (idleEvent_sansHost b d)
@[simp] theorem idleEvent_lastReset (b : Bool) (d : Device) : (idleEvent b d).lastReset = d.lastReset :=
  lastReset_of_sansHost (idleEvent_sansHost b d)
@[simp] theorem idleEvent_modem (b : Bool) (d : Device) : (idleEvent b d).modem = d.modem :=
  modem_of_sansHost (idleEvent_sansHost b d)
@[simp] theorem idleEvent_disp (b : Bool) (d : Device) : (idleEvent b d).disp = d.disp :=
  disp_of_sansHost (idleEvent_sansHost b d)
@[simp] theorem idleEvent_lines (b : Bool) (d : Device) : (idleEvent b d).lines = d.lines :=
  lines_of_sansHost (idleEvent_sansHost b d)
@[simp] theorem idleEvent_arb (b : Bool) (d : Device) : (idleEvent b d).arb = d.arb :=
  arb_of_sansHost (idleEvent_sansHost b d)
@[simp] theorem idleEvent_paging (b : Bool) (d : Device) : (idleEvent b d).paging = d.paging :=
  paging_of_sansHost (idleEvent_sansHost b d)
@[simp] theorem idleEvent_text (b : Bool) (d : Device) : (idleEvent b d).text = d.text :=
  text_of_sansHost (idleEvent_sansHost b d)
@[simp] theorem idleEvent_calls (b : Bool) (d : Device) : (idleEvent b d).calls = d.calls :=
  calls_of_sansHost (idleEvent_sansHost b d)
@[simp] theorem idleEvent_meas (b : Bool) (d : Device) : (idleEvent b d).meas = d.meas :=
  meas_of_sansHost (idleEvent_sansHost b d)
@[simp] theorem idleEvent_move (b : Bool) (d : Device) : (idleEvent b d).move = d.move :=
  move_of_sansHost (idleEvent_sansHost b d)

@[simp] theorem hostAccepted_inReset (count : Half) (d : Device) : (hostAccepted count d).inReset = d.inReset :=
  inReset_of_sansHost (hostAccepted_sansHost count d)
@[simp] theorem hostAccepted_lastReset (count : Half) (d : Device) : (hostAccepted count d).lastReset = d.lastReset :=
  lastReset_of_sansHost (hostAccepted_sansHost count d)
@[simp] theorem hostAccepted_modem (count : Half) (d : Device) : (hostAccepted count d).modem = d.modem :=
  modem_of_sansHost (hostAccepted_sansHost count d)
@[simp] theorem hostAccepted_disp (count : Half) (d : Device) : (hostAccepted count d).disp = d.disp :=
  disp_of_sansHost (hostAccepted_sansHost count d)
@[simp] theorem hostAccepted_lines (count : Half) (d : Device) : (hostAccepted count d).lines = d.lines :=
  lines_of_sansHost (hostAccepted_sansHost count d)
@[simp] theorem hostAccepted_arb (count : Half) (d : Device) : (hostAccepted count d).arb = d.arb :=
  arb_of_sansHost (hostAccepted_sansHost count d)
@[simp] theorem hostAccepted_paging (count : Half) (d : Device) : (hostAccepted count d).paging = d.paging :=
  paging_of_sansHost (hostAccepted_sansHost count d)
@[simp] theorem hostAccepted_text (count : Half) (d : Device) : (hostAccepted count d).text = d.text :=
  text_of_sansHost (hostAccepted_sansHost count d)
@[simp] theorem hostAccepted_calls (count : Half) (d : Device) : (hostAccepted count d).calls = d.calls :=
  calls_of_sansHost (hostAccepted_sansHost count d)
@[simp] theorem hostAccepted_meas (count : Half) (d : Device) : (hostAccepted count d).meas = d.meas :=
  meas_of_sansHost (hostAccepted_sansHost count d)
@[simp] theorem hostAccepted_move (count : Half) (d : Device) : (hostAccepted count d).move = d.move :=
  move_of_sansHost (hostAccepted_sansHost count d)

@[simp] theorem reply_inReset (h : CmdHead) (n : Byte) (o : ReplyOutcome) (d : Device) : (reply h n o d).inReset = d.inReset :=
  inReset_of_sansHost (reply_sansHost h n o d)
@[simp] theorem reply_lastReset (h : CmdHead) (n : Byte) (o : ReplyOutcome) (d : Device) : (reply h n o d).lastReset = d.lastReset :=
  lastReset_of_sansHost (reply_sansHost h n o d)
@[simp] theorem reply_modem (h : CmdHead) (n : Byte) (o : ReplyOutcome) (d : Device) : (reply h n o d).modem = d.modem :=
  modem_of_sansHost (reply_sansHost h n o d)
@[simp] theorem reply_disp (h : CmdHead) (n : Byte) (o : ReplyOutcome) (d : Device) : (reply h n o d).disp = d.disp :=
  disp_of_sansHost (reply_sansHost h n o d)
@[simp] theorem reply_lines (h : CmdHead) (n : Byte) (o : ReplyOutcome) (d : Device) : (reply h n o d).lines = d.lines :=
  lines_of_sansHost (reply_sansHost h n o d)
@[simp] theorem reply_arb (h : CmdHead) (n : Byte) (o : ReplyOutcome) (d : Device) : (reply h n o d).arb = d.arb :=
  arb_of_sansHost (reply_sansHost h n o d)
@[simp] theorem reply_paging (h : CmdHead) (n : Byte) (o : ReplyOutcome) (d : Device) : (reply h n o d).paging = d.paging :=
  paging_of_sansHost (reply_sansHost h n o d)
@[simp] theorem reply_text (h : CmdHead) (n : Byte) (o : ReplyOutcome) (d : Device) : (reply h n o d).text = d.text :=
  text_of_sansHost (reply_sansHost h n o d)
@[simp] theorem reply_calls (h : CmdHead) (n : Byte) (o : ReplyOutcome) (d : Device) : (reply h n o d).calls = d.calls :=
  calls_of_sansHost (reply_sansHost h n o d)
@[simp] theorem reply_meas (h : CmdHead) (n : Byte) (o : ReplyOutcome) (d : Device) : (reply h n o d).meas = d.meas :=
  meas_of_sansHost (reply_sansHost h n o d)
@[simp] theorem reply_move (h : CmdHead) (n : Byte) (o : ReplyOutcome) (d : Device) : (reply h n o d).move = d.move :=
  move_of_sansHost (reply_sansHost h n o d)

@[simp] theorem lineNotice_inReset (l : LineId) (code : LineNotice) (d : Device) : (lineNotice l code d).inReset = d.inReset :=
  inReset_of_sansHost (lineNotice_sansHost l code d)
@[simp] theorem lineNotice_lastReset (l : LineId) (code : LineNotice) (d : Device) : (lineNotice l code d).lastReset = d.lastReset :=
  lastReset_of_sansHost (lineNotice_sansHost l code d)
@[simp] theorem lineNotice_modem (l : LineId) (code : LineNotice) (d : Device) : (lineNotice l code d).modem = d.modem :=
  modem_of_sansHost (lineNotice_sansHost l code d)
@[simp] theorem lineNotice_disp (l : LineId) (code : LineNotice) (d : Device) : (lineNotice l code d).disp = d.disp :=
  disp_of_sansHost (lineNotice_sansHost l code d)
@[simp] theorem lineNotice_lines (l : LineId) (code : LineNotice) (d : Device) : (lineNotice l code d).lines = d.lines :=
  lines_of_sansHost (lineNotice_sansHost l code d)
@[simp] theorem lineNotice_arb (l : LineId) (code : LineNotice) (d : Device) : (lineNotice l code d).arb = d.arb :=
  arb_of_sansHost (lineNotice_sansHost l code d)
@[simp] theorem lineNotice_paging (l : LineId) (code : LineNotice) (d : Device) : (lineNotice l code d).paging = d.paging :=
  paging_of_sansHost (lineNotice_sansHost l code d)
@[simp] theorem lineNotice_text (l : LineId) (code : LineNotice) (d : Device) : (lineNotice l code d).text = d.text :=
  text_of_sansHost (lineNotice_sansHost l code d)
@[simp] theorem lineNotice_calls (l : LineId) (code : LineNotice) (d : Device) : (lineNotice l code d).calls = d.calls :=
  calls_of_sansHost (lineNotice_sansHost l code d)
@[simp] theorem lineNotice_meas (l : LineId) (code : LineNotice) (d : Device) : (lineNotice l code d).meas = d.meas :=
  meas_of_sansHost (lineNotice_sansHost l code d)
@[simp] theorem lineNotice_move (l : LineId) (code : LineNotice) (d : Device) : (lineNotice l code d).move = d.move :=
  move_of_sansHost (lineNotice_sansHost l code d)

@[simp] theorem withIdle_inReset (f : Device → Device) (d : Device) : (withIdle f d).inReset = (f d).inReset :=
  inReset_of_sansHost (withIdle_sansHost f d)
@[simp] theorem withIdle_lastReset (f : Device → Device) (d : Device) : (withIdle f d).lastReset = (f d).lastReset :=
  lastReset_of_sansHost (withIdle_sansHost f d)
@[simp] theorem withIdle_modem (f : Device → Device) (d : Device) : (withIdle f d).modem = (f d).modem :=
  modem_of_sansHost (withIdle_sansHost f d)
@[simp] theorem withIdle_disp (f : Device → Device) (d : Device) : (withIdle f d).disp = (f d).disp :=
  disp_of_sansHost (withIdle_sansHost f d)
@[simp] theorem withIdle_lines (f : Device → Device) (d : Device) : (withIdle f d).lines = (f d).lines :=
  lines_of_sansHost (withIdle_sansHost f d)
@[simp] theorem withIdle_arb (f : Device → Device) (d : Device) : (withIdle f d).arb = (f d).arb :=
  arb_of_sansHost (withIdle_sansHost f d)
@[simp] theorem withIdle_paging (f : Device → Device) (d : Device) : (withIdle f d).paging = (f d).paging :=
  paging_of_sansHost (withIdle_sansHost f d)
@[simp] theorem withIdle_text (f : Device → Device) (d : Device) : (withIdle f d).text = (f d).text :=
  text_of_sansHost (withIdle_sansHost f d)
@[simp] theorem withIdle_calls (f : Device → Device) (d : Device) : (withIdle f d).calls = (f d).calls :=
  calls_of_sansHost (withIdle_sansHost f d)
@[simp] theorem withIdle_meas (f : Device → Device) (d : Device) : (withIdle f d).meas = (f d).meas :=
  meas_of_sansHost (withIdle_sansHost f d)
@[simp] theorem withIdle_move (f : Device → Device) (d : Device) : (withIdle f d).move = (f d).move :=
  move_of_sansHost (withIdle_sansHost f d)

/-! ### The Host-bound Queue (R16, R17) -/

/-- An idle-condition event, a wake or a condition's record leaves the queue alone. -/
@[simp] theorem idleBreaks_host (d : Device) : (idleBreaks d).host = d.host := by unfold idleBreaks; split <;> rfl
@[simp] theorem wakeHost_host (d : Device) : (wakeHost d).host = d.host := rfl
@[simp] theorem addReason_host (r : WakeReason) (d : Device) : (addReason r d).host = d.host := by
  unfold addReason; dsimp only; split <;> simp
@[simp] theorem wakeReport_host (f : HostFrame) (d : Device) : (wakeReport f d).host = d.host := by
  unfold wakeReport; dsimp only; repeat' split
  all_goals simp
@[simp] theorem addReason_conds (r : WakeReason) (d : Device) : (addReason r d).conds = d.conds := by
  unfold addReason wakeHost; dsimp only; split <;> simp
@[simp] theorem idleBreaks_conds (d : Device) : (idleBreaks d).conds = d.conds := by unfold idleBreaks; split <;> rfl
@[simp] theorem wakeReport_conds (f : HostFrame) (d : Device) : (wakeReport f d).conds = d.conds := by
  unfold wakeReport; dsimp only; repeat' split
  all_goals simp

@[simp] theorem insertFrame_length (f : HostFrame) (q : List HostFrame) : (insertFrame f q).length = q.length + 1 := by
  unfold insertFrame; split
  · have := congrArg List.length (List.takeWhile_append_dropWhile (p := HostFrame.isReply) (l := q))
    simp only [List.length_append] at this
    simp; omega
  · simp

theorem mem_insertFrame (f g : HostFrame) (q : List HostFrame) : g ∈ insertFrame f q ↔ g = f ∨ g ∈ q := by
  unfold insertFrame; split
  · have h : g ∈ q ↔ g ∈ q.takeWhile HostFrame.isReply ∨ g ∈ q.dropWhile HostFrame.isReply := by
      rw [← List.mem_append, List.takeWhile_append_dropWhile]
    simp only [List.mem_append, List.mem_singleton, h]; tauto
  · simp [or_comm]

/-- A frame as it stands in the queue: a NOTICE has its sequence number. -/
def stamped (f : HostFrame) (seq : Byte) : HostFrame :=
  match f.payload with
  | .notice _ => { f with tag := seq }
  | _ => f

/-- The queue after a frame joins (R16). -/
@[simp] theorem joinQueue_queue (f : HostFrame) (q : List HostFrame) (d : Device) :
    (joinQueue f q d).host.queue = insertFrame (stamped f d.host.seq) q := by
  unfold joinQueue stamped; dsimp only; rw [wakeReport_host]
  cases f.payload <;> dsimp only <;> split <;> simp

@[simp] theorem joinQueue_conds (f : HostFrame) (q : List HostFrame) (d : Device) : (joinQueue f q d).conds = d.conds := by
  unfold joinQueue; dsimp only; rw [wakeReport_conds]; repeat' split
  all_goals simp

/-- With room, a frame joins and no condition is raised (R16, R17); a Bulk frame may be kept out by Quiet (R18). -/
theorem offer_of_room {f : HostFrame} {d : Device} (h : d.host.queue.length < 48) (hq : f.cls ≠ .bulk ∨ quiet d = false) :
    offer f d = (joinQueue f d.host.queue d, true) := by
  have hb : ¬ (f.cls = .bulk ∧ quiet d = true) := by rcases hq with h | h <;> simp [h]
  simp [offer, offerRaw, hb, Config.hostQueueCap, h, OfferResult.placed]

theorem eraseFirst_length_le {α : Type} (p : α → Bool) (l : List α) : (eraseFirst p l).length ≤ l.length := by
  induction l with
  | nil => simp [eraseFirst]
  | cons x xs ih => unfold eraseFirst; split <;> simp; exact ih

theorem eraseFirst_length_of_any {α : Type} (p : α → Bool) (l : List α) (h : l.any p = true) :
    (eraseFirst p l).length + 1 = l.length := by
  induction l with
  | nil => simp at h
  | cons x xs ih =>
    unfold eraseFirst
    by_cases hx : p x = true
    · simp [hx]
    · simp only [List.any_cons, Bool.or_eq_true] at h
      rcases h with h | h
      · exact absurd h hx
      · simp [hx, ih h]

theorem offerRaw_queue_le {d : Device} (h : d.host.queue.length ≤ 48) (f : HostFrame) :
    (offerRaw f d).1.host.queue.length ≤ 48 := by
  unfold offerRaw dropOldest holdsCls; dsimp only
  repeat' split
  all_goals (try simpa using h)
  all_goals (try (simp only [joinQueue_queue, insertFrame_length, Config.hostQueueCap] at *; omega))
  all_goals simp only [joinQueue_queue, insertFrame_length, Config.hostQueueCap] at *
  · rename_i hb; have := eraseFirst_length_of_any _ _ hb; omega
  · rename_i hb; have := eraseFirst_length_of_any _ _ hb; omega
  · rename_i g hg
    have hm := List.find?_some hg
    have hi := List.mem_of_find?_eq_some hg
    have := eraseFirst_length_of_any (fun x : HostFrame => x.cls == .normal) _ (List.any_eq_true.mpr ⟨_, hi, hm⟩)
    omega

@[simp] theorem recordEvent_host (c : Cond) (line : BitVec 2) (subject : Nat) (d : Device) :
    (recordEvent c line subject d).host = d.host := rfl

theorem overflowEvent_queue_le {d : Device} (h : d.host.queue.length ≤ 48) (line : BitVec 2) :
    (overflowEvent line d).host.queue.length ≤ 48 := by
  unfold overflowEvent; dsimp only
  have key := offerRaw_queue_le (d := recordEvent .f2 line 0 d) h
    (conditionNotice .f2 line 0 (recordEvent .f2 line 0 d))
  repeat' split
  all_goals (try simpa using h)
  all_goals (rename_i e; rw [e] at key; simpa using key)

/-- The Host-bound Queue never holds more than 48 frames after an offer (R16, R17). -/
theorem offer_queue_le {d : Device} (h : d.host.queue.length ≤ 48) (f : HostFrame) :
    (offer f d).1.host.queue.length ≤ 48 := by
  unfold offer
  have key := offerRaw_queue_le h f
  repeat' split
  all_goals (rename_i e; rw [e] at key)
  · exact overflowEvent_queue_le key _
  · exact overflowEvent_queue_le key _
  · exact key

/-- The head of a NOTICE is four bytes: kind, Code and Subject (section 1.3). -/
theorem noticeHead_length (n : Notice) : (noticeHead n).length = 4 := rfl

/-- A NOTICE's payload begins with its head. -/
theorem take_notice_bytes (n : Notice) : (HostPayload.notice n).bytes.take 4 = noticeHead n := rfl

end Sys2Proof.Machine
end

