-- ==== Sys2Proof/Laws/Ports.lean ====
section
/-! SUPPORT. The frame on the modem link beside the frame in its lane (R3, R124), what a line's parameter write makes of the
items that Table Read lists (R176), what a checked item of the dispatch tables holds (R37),
and how a walk begins and ends (R26, R27, R38). -/

namespace Sys2Proof.Machine

/-! ### The Tag on the modem link (R3, R124) -/

@[simp] theorem onWire_payload (f : ModemFrame) : f.onWire.payload = f.payload := by unfold ModemFrame.onWire; split <;> rfl
@[simp] theorem onWire_line (f : ModemFrame) : f.onWire.line = f.line := by unfold ModemFrame.onWire; split <;> rfl
@[simp] theorem onWire_cls (f : ModemFrame) : f.onWire.cls = f.cls := by unfold ModemFrame.onWire; split <;> rfl

/-- A frame that dispatch forwards keeps its Tag. -/
@[simp] theorem onWire_forwardFrame (f : LinkFrame) : (forwardFrame f).onWire = forwardFrame f := rfl

/-- So does one that the voice gate passed, whatever record it was for. -/
@[simp] theorem onWire_gateFrame (t : Fin 4) (f : LinkFrame) : (gateFrame t f).onWire = forwardFrame f := rfl

/-- A transmission toward the modem changes the frame sent last and the outbound count alone. -/
theorem sendModem_eq (f : ModemFrame) (d : Device) :
    sendModem f d = d.onModem fun m =>
      { m with sent := (sendModem f d).modem.sent, outCount := d.modem.outCount + 1 } := rfl

/-! ### A line's parameters as Table Read lists them (R40, R176) -/

/-- A parameter that takes a value stands at its own item, and the other items are as they were. -/
theorem setParam_items {i : Nat} {v : ParamValue} {p p' : LineParams} (h : setParam i v p = some p') :
    paramItems p' = (paramItems p).set i (.param v) := by
  unfold setParam at h
  split at h <;> first
    | (split at h <;> simp_all <;> (subst h; rfl))
    | (simp_all <;> (subst h; rfl))

/-- Table Read lists the parameters in their order. -/
theorem paramItems_listed (p : LineParams) : paramItems p = p.listed.map .param := rfl

/-- A parameter takes a value exactly within its range. -/
theorem setParam_isSome (i : Nat) (v : ParamValue) (p : LineParams) : (setParam i v p).isSome = true ↔ paramInRange i v := by
  unfold setParam
  split
  case h_28 =>
    unfold paramInRange
    split
    all_goals first | (exfalso; simp at *; done) | simp
  all_goals simp [paramInRange, within]

/-! ### The checked items of the dispatch tables (R24, R25, R37) -/

/-- A checked index is the written one. -/
theorem ruleIndex_some {n : Option Nat} {i : Option (Fin 64)} (h : ruleIndex n = some i) : i.map Fin.val = n := by
  cases n with
  | none => obtain rfl := Option.some.inj h; rfl
  | some k =>
    simp only [ruleIndex] at h
    split at h
    case isTrue => obtain rfl := Option.some.inj h; rfl
    case isFalse => cases h

/-- A checked rule has the written fields. -/
theorem checkRule_some {x : RuleWrite} {y : Rule} (h : checkRule x = some y) :
    y.inUse = x.inUse ∧ some y.kind = x.kind ∧ some y.mtype = x.mtype ∧ some y.line = x.line ∧ some y.power = x.power
    ∧ some y.action = x.action ∧ y.jump.val = x.jump ∧ y.missNext.map Fin.val = x.missNext ∧ some y.cls = x.cls := by
  unfold checkRule at h
  split at h
  case h_1 k t l p a c m hk ht hl hp ha hc hm =>
    split at h
    · split at h
      · obtain rfl := Option.some.inj h
        exact ⟨rfl, hk.symm, ht.symm, hl.symm, hp.symm, ha.symm, rfl, ruleIndex_some hm, hc.symm⟩
      · cases h
    · cases h
  case h_2 => cases h

/-- Checked entries have the written fields, item by item. -/
theorem checkEntries_some : ∀ {i : Nat} {xs : List EntryWrite} {ys : List EntryRec}, checkEntries i xs = some ys →
    ys.length = xs.length
    ∧ ∀ (k : Nat) (x : EntryWrite) (y : EntryRec), xs[k]? = some x → ys[k]? = some y →
      y.start.map Fin.val = x.start ∧ some y.default = x.default ∧ i + k < 6 ∧ defaultAllowed (i + k) y.default = true := by
  intro i xs
  induction xs generalizing i with
  | nil => intro ys h; obtain rfl := Option.some.inj h; simp
  | cons x xs ih =>
    intro ys h
    unfold checkEntries at h
    split at h
    case h_2 => cases h
    case h_1 st a rest hs ha hr =>
      split at h
      case isFalse => cases h
      case isTrue hi =>
        obtain rfl := Option.some.inj h
        refine ⟨by simp [(ih hr).1], fun k x' y' hx hy => ?_⟩
        cases k with
        | zero =>
          simp only [List.getElem?_cons_zero, Option.some.injEq] at hx hy
          subst hx hy
          exact ⟨ruleIndex_some hs, ha.symm, hi⟩
        | succ k =>
          have := (ih hr).2 k x' y' hx hy
          rwa [Nat.add_right_comm] at this

/-! ### A walk in progress (R26, R27, R38; log entry 6) -/

/-- A walk in progress is not begun again. -/
theorem beginWalk_walking {d : Device} {w : WalkBegun} (h : d.disp.walking = some w) : beginWalk d = d := by
  simp [beginWalk, h]

/-- What the start of a walk can do: nothing, or a modem frame leaves its queue and walks on under the host power of this moment. -/
theorem beginWalk_cases (d : Device) : beginWalk d = d
    ∨ ∃ f x, d.disp.walking = none ∧ takeFrame d = some (.down, f, x)
      ∧ beginWalk d = x.onDisp fun t => { t with walking := some ⟨f, d.sleep.power⟩ } := by
  unfold beginWalk
  split
  case h_1 f x hw ht => exact .inr ⟨f, x, hw, ht, rfl⟩
  case h_2 => exact .inl rfl

theorem finishWalk_none {d : Device} (h : d.disp.walking = none) : finishWalk d = d := by simp [finishWalk, h]

/-- A walk in progress ends under the power it began with, whatever the host's power is now. -/
theorem finishWalk_walking {d : Device} {w : WalkBegun} (h : d.disp.walking = some w) :
    finishWalk d = endWalk (walkFrame .down w.power w.frame (d.onDisp fun t => { t with walking := none })) := by
  simp [finishWalk, h]

/-- A walk in progress ends before a frame is taken or a waiting write applied. -/
theorem dispatchOnce_walking {d : Device} {w : WalkBegun} (h : d.disp.walking = some w) : dispatchOnce d = finishWalk d := by
  simp [dispatchOnce, h]

theorem dispatchOnce_idle {d : Device} (h : d.disp.walking = none) : dispatchOnce d = endWalk (walkNext (applyWaiting d)) := by
  simp [dispatchOnce, h]

end Sys2Proof.Machine
end

