-- ==== Sys2Proof/Laws/Radio.lean ====
section
/-! SUPPORT. What the Radio Time Arbiter and the owners it asks can change: the arbiter, the Order lane, the watches, the
measure positions and the move records, beside the host-bound side. Everything else of the part keeps its value. -/

namespace Sys2Proof.Machine

/-- The part without what a request, a release, a withdrawal or an arbitration may change. -/
def Device.sansRadio (d : Device) : Device :=
  { d.sansHost with
    arb := default, modem := { d.modem with orderLane := [] }, paging := default, move := default
    meas := { d.meas with lines := default } }

theorem sansRadio_of_sansHost {d t : Device} (h : t.sansHost = d.sansHost) : t.sansRadio = d.sansRadio := by
  unfold Device.sansRadio; rw [h, modem_of_sansHost h, meas_of_sansHost h]

@[simp] theorem onHost_sansRadio (f : HostPort → HostPort) (d : Device) : (d.onHost f).sansRadio = d.sansRadio := rfl
@[simp] theorem onSleep_sansRadio (f : SleepRec → SleepRec) (d : Device) : (d.onSleep f).sansRadio = d.sansRadio := rfl
@[simp] theorem onArb_sansRadio (f : Arbiter → Arbiter) (d : Device) : (d.onArb f).sansRadio = d.sansRadio := rfl
@[simp] theorem onSlot_sansRadio (i : Fin 13) (f : Slot → Slot) (d : Device) : (d.onSlot i f).sansRadio = d.sansRadio := rfl
@[simp] theorem onPaging_sansRadio (l : LineId) (f : PagingRec → PagingRec) (d : Device) :
    (d.onPaging l f).sansRadio = d.sansRadio := rfl
@[simp] theorem onMove_sansRadio (l : LineId) (f : MoveLine → MoveLine) (d : Device) :
    (d.onMove l f).sansRadio = d.sansRadio := rfl
@[simp] theorem onMeasLine_sansRadio (l : LineId) (f : MeasLine → MeasLine) (d : Device) :
    (d.onMeasLine l f).sansRadio = d.sansRadio := rfl
@[simp] theorem placeOrder_sansRadio (l : Option LineId) (o : RadioOrder) (d : Device) :
    (placeOrder l o d).sansRadio = d.sansRadio := rfl
@[simp] theorem slotOrder_sansRadio (i : Fin 13) (n : OrderName) (w k : Byte) (b : OrderBody) (d : Device) :
    (slotOrder i n w k b d).sansRadio = d.sansRadio := rfl
@[simp] theorem offer_sansRadio (f : HostFrame) (d : Device) : (offer f d).1.sansRadio = d.sansRadio :=
  sansRadio_of_sansHost (offer_sansHost f d)
@[simp] theorem raise_sansRadio (c : Cond) (n : BitVec 2) (k : Nat) (d : Device) : (raise c n k d).sansRadio = d.sansRadio :=
  sansRadio_of_sansHost (raise_sansHost c n k d)
@[simp] theorem setArb_sansRadio (f : Arbiter → Arbiter) (d : Device) : (setArb f d).sansRadio = d.sansRadio := by
  rw [setArb, sansRadio_of_sansHost (withIdle_sansHost _ d), onArb_sansRadio]

/-! ### The arbiter's own operations -/

@[simp] theorem setWant_sansRadio (i : Fin 13) (w : Want) (d : Device) : (setWant i w d).sansRadio = d.sansRadio :=
  setArb_sansRadio _ d
@[simp] theorem suspend_sansRadio (h : Holder) (d : Device) : (suspend h d).sansRadio = d.sansRadio := rfl
@[simp] theorem cancel_sansRadio (h : Holder) (d : Device) : (cancel h d).sansRadio = d.sansRadio := rfl
@[simp] theorem takeWindow_sansRadio (d : Device) : (takeWindow d).sansRadio = d.sansRadio := rfl
@[simp] theorem notePending_sansRadio (i : Fin 13) (d : Device) : (notePending i d).sansRadio = d.sansRadio := by
  unfold notePending; repeat' split
  all_goals simp
@[simp] theorem pend_sansRadio (i : Fin 13) (d : Device) : (pend i d).sansRadio = d.sansRadio := by
  unfold pend; split <;> simp

/-- A run of steps that each leave the rest alone leaves it alone. -/
theorem foldl_sansRadio {α : Type} (f : Device → α → Device) (h : ∀ d x, (f d x).sansRadio = d.sansRadio) (l : List α)
    (d : Device) : (l.foldl f d).sansRadio = d.sansRadio := by
  induction l generalizing d with
  | nil => rfl
  | cons x xs ih => rw [List.foldl_cons, ih, h]

@[simp] theorem leaveDeferred_sansRadio (d : Device) : (leaveDeferred d).sansRadio = d.sansRadio := by
  unfold leaveDeferred
  dsimp only
  rw [foldl_sansRadio _ (by simp), foldl_sansRadio _ (by simp)]
@[simp] theorem grant_sansRadio (i : Fin 13) (o : Order) (d : Device) : (grant i o d).sansRadio = d.sansRadio := by
  simp [grant]
@[simp] theorem endHold_sansRadio (h : Holder) (d : Device) : (endHold h d).sansRadio = d.sansRadio := by
  unfold endHold; dsimp only; split <;> simp
@[simp] theorem withdrawOne_sansRadio (i : Fin 13) (d : Device) : (withdrawOne i d).sansRadio = d.sansRadio := by
  unfold withdrawOne; dsimp only; repeat' split
  all_goals simp
@[simp] theorem decline_sansRadio (i : Fin 13) (d : Device) : (decline i d).sansRadio = d.sansRadio := by simp [decline]
@[simp] theorem followOn_sansRadio (h : Holder) (o : Order) (d : Device) : (followOn h o d).sansRadio = d.sansRadio := rfl

/-! ### The owners (R71, R85, R136, R153) -/

@[simp] theorem countMissed_sansRadio (l : LineId) (d : Device) : (countMissed l d).sansRadio = d.sansRadio := rfl
@[simp] theorem endWatch_sansRadio (l : LineId) (d : Device) : (endWatch l d).sansRadio = d.sansRadio := rfl
@[simp] theorem restorePos_sansRadio (l : LineId) (d : Device) : (restorePos l d).sansRadio = d.sansRadio := rfl
@[simp] theorem onMoveRec_sansRadio (l : LineId) (f : MoveRec → MoveRec) (d : Device) :
    (onMoveRec l f d).sansRadio = d.sansRadio := rfl
@[simp] theorem ownerOrder_sansRadio (i : Fin 13) (d : Device) : (ownerOrder i d).1.sansRadio = d.sansRadio := by
  unfold ownerOrder moveOrder pagingOrder measureOrder; dsimp only; repeat' split
  all_goals simp

@[simp] theorem arbitrateN_sansRadio (n : Nat) (d : Device) : (arbitrateN n d).sansRadio = d.sansRadio := by
  induction n generalizing d with
  | zero => rfl
  | succ n ih =>
    unfold arbitrateN
    split
    · rfl
    · split
      · rfl
      · rename_i i _
        have key := ownerOrder_sansRadio i (d.onArb fun a => { a with pointer := i })
        split <;> rename_i e <;> rw [e] at key
        · simpa using key
        · rw [ih]; simpa using key

@[simp] theorem arbitrate_sansRadio (d : Device) : (arbitrate d).sansRadio = d.sansRadio := arbitrateN_sansRadio 14 d
@[simp] theorem settleDeferred_sansRadio (d : Device) : (settleDeferred d).sansRadio = d.sansRadio := by
  unfold settleDeferred; dsimp only; split <;> simp
@[simp] theorem requestSlot_sansRadio (i : Fin 13) (d : Device) : (requestSlot i d).sansRadio = d.sansRadio := by
  unfold requestSlot; split <;> simp
@[simp] theorem requestTraffic_sansRadio (l : LineId) (d : Device) : (requestTraffic l d).sansRadio = d.sansRadio := by
  simp [requestTraffic]
@[simp] theorem releaseSlot_sansRadio (i : Fin 13) (d : Device) : (releaseSlot i d).sansRadio = d.sansRadio := by
  unfold releaseSlot; dsimp only; repeat' split
  all_goals simp
@[simp] theorem tellWithdrawn_sansRadio (i : Fin 13) (st : SlotState) (d : Device) :
    (tellWithdrawn i st d).sansRadio = d.sansRadio := by
  unfold tellWithdrawn; dsimp only; repeat' split
  all_goals simp
@[simp] theorem withdrawSlots_sansRadio (is : List (Fin 13)) (d : Device) : (withdrawSlots is d).sansRadio = d.sansRadio := by
  unfold withdrawSlots; dsimp only
  split
  · rw [arbitrate_sansRadio, leaveDeferred_sansRadio, foldl_sansRadio _ (by simp)]
  · rw [settleDeferred_sansRadio, foldl_sansRadio _ (by simp)]
@[simp] theorem ownerEnd_sansRadio (h : Holder) (d : Device) : (ownerEnd h d).sansRadio = d.sansRadio := by simp [ownerEnd]
@[simp] theorem endIfHolding_sansRadio (i : Fin 13) (d : Device) : (endIfHolding i d).sansRadio = d.sansRadio := by
  unfold endIfHolding; split <;> simp

/-! ### The same, block by block -/

theorem inReset_of_sansRadio {d t : Device} (h : t.sansRadio = d.sansRadio) : t.inReset = d.inReset :=
  show t.sansRadio.inReset = d.sansRadio.inReset by rw [h]
theorem lastReset_of_sansRadio {d t : Device} (h : t.sansRadio = d.sansRadio) : t.lastReset = d.lastReset :=
  show t.sansRadio.lastReset = d.sansRadio.lastReset by rw [h]
theorem disp_of_sansRadio {d t : Device} (h : t.sansRadio = d.sansRadio) : t.disp = d.disp :=
  show t.sansRadio.disp = d.sansRadio.disp by rw [h]
theorem lines_of_sansRadio {d t : Device} (h : t.sansRadio = d.sansRadio) : t.lines = d.lines :=
  show t.sansRadio.lines = d.sansRadio.lines by rw [h]
theorem text_of_sansRadio {d t : Device} (h : t.sansRadio = d.sansRadio) : t.text = d.text :=
  show t.sansRadio.text = d.sansRadio.text by rw [h]
theorem calls_of_sansRadio {d t : Device} (h : t.sansRadio = d.sansRadio) : t.calls = d.calls :=
  show t.sansRadio.calls = d.sansRadio.calls by rw [h]
theorem entries_of_sansRadio {d t : Device} (h : t.sansRadio = d.sansRadio) : t.meas.entries = d.meas.entries :=
  show t.sansRadio.meas.entries = d.sansRadio.meas.entries by rw [h]
theorem lock_of_sansRadio {d t : Device} (h : t.sansRadio = d.sansRadio) : t.meas.lock = d.meas.lock :=
  show t.sansRadio.meas.lock = d.sansRadio.meas.lock by rw [h]
theorem lockHold_of_sansRadio {d t : Device} (h : t.sansRadio = d.sansRadio) : t.meas.lockHold = d.meas.lockHold :=
  show t.sansRadio.meas.lockHold = d.sansRadio.meas.lockHold by rw [h]
theorem intake_of_sansRadio {d t : Device} (h : t.sansRadio = d.sansRadio) : t.modem.intake = d.modem.intake :=
  show t.sansRadio.modem.intake = d.sansRadio.modem.intake by rw [h]
theorem deviceLane_of_sansRadio {d t : Device} (h : t.sansRadio = d.sansRadio) : t.modem.deviceLane = d.modem.deviceLane :=
  show t.sansRadio.modem.deviceLane = d.sansRadio.modem.deviceLane by rw [h]
theorem hostLane_of_sansRadio {d t : Device} (h : t.sansRadio = d.sansRadio) : t.modem.hostLane = d.modem.hostLane :=
  show t.sansRadio.modem.hostLane = d.sansRadio.modem.hostLane by rw [h]
theorem portParams_of_sansRadio {d t : Device} (h : t.sansRadio = d.sansRadio) : t.modem.params = d.modem.params :=
  show t.sansRadio.modem.params = d.sansRadio.modem.params by rw [h]

@[simp] theorem arbitrate_inReset (d : Device) : (arbitrate d).inReset = d.inReset :=
  inReset_of_sansRadio (arbitrate_sansRadio d)
@[simp] theorem arbitrate_lastReset (d : Device) : (arbitrate d).lastReset = d.lastReset :=
  lastReset_of_sansRadio (arbitrate_sansRadio d)
@[simp] theorem arbitrate_disp (d : Device) : (arbitrate d).disp = d.disp :=
  disp_of_sansRadio (arbitrate_sansRadio d)
@[simp] theorem arbitrate_lines (d : Device) : (arbitrate d).lines = d.lines :=
  lines_of_sansRadio (arbitrate_sansRadio d)
@[simp] theorem arbitrate_text (d : Device) : (arbitrate d).text = d.text :=
  text_of_sansRadio (arbitrate_sansRadio d)
@[simp] theorem arbitrate_calls (d : Device) : (arbitrate d).calls = d.calls :=
  calls_of_sansRadio (arbitrate_sansRadio d)
@[simp] theorem arbitrate_entries (d : Device) : (arbitrate d).meas.entries = d.meas.entries :=
  entries_of_sansRadio (arbitrate_sansRadio d)
@[simp] theorem arbitrate_lock (d : Device) : (arbitrate d).meas.lock = d.meas.lock :=
  lock_of_sansRadio (arbitrate_sansRadio d)
@[simp] theorem arbitrate_lockHold (d : Device) : (arbitrate d).meas.lockHold = d.meas.lockHold :=
  lockHold_of_sansRadio (arbitrate_sansRadio d)
@[simp] theorem arbitrate_intake (d : Device) : (arbitrate d).modem.intake = d.modem.intake :=
  intake_of_sansRadio (arbitrate_sansRadio d)
@[simp] theorem arbitrate_deviceLane (d : Device) : (arbitrate d).modem.deviceLane = d.modem.deviceLane :=
  deviceLane_of_sansRadio (arbitrate_sansRadio d)
@[simp] theorem arbitrate_hostLane (d : Device) : (arbitrate d).modem.hostLane = d.modem.hostLane :=
  hostLane_of_sansRadio (arbitrate_sansRadio d)
@[simp] theorem arbitrate_portParams (d : Device) : (arbitrate d).modem.params = d.modem.params :=
  portParams_of_sansRadio (arbitrate_sansRadio d)

@[simp] theorem requestSlot_inReset (i : Fin 13) (d : Device) : (requestSlot i d).inReset = d.inReset :=
  inReset_of_sansRadio (requestSlot_sansRadio i d)
@[simp] theorem requestSlot_lastReset (i : Fin 13) (d : Device) : (requestSlot i d).lastReset = d.lastReset :=
  lastReset_of_sansRadio (requestSlot_sansRadio i d)
@[simp] theorem requestSlot_disp (i : Fin 13) (d : Device) : (requestSlot i d).disp = d.disp :=
  disp_of_sansRadio (requestSlot_sansRadio i d)
@[simp] theorem requestSlot_lines (i : Fin 13) (d : Device) : (requestSlot i d).lines = d.lines :=
  lines_of_sansRadio (requestSlot_sansRadio i d)
@[simp] theorem requestSlot_text (i : Fin 13) (d : Device) : (requestSlot i d).text = d.text :=
  text_of_sansRadio (requestSlot_sansRadio i d)
@[simp] theorem requestSlot_calls (i : Fin 13) (d : Device) : (requestSlot i d).calls = d.calls :=
  calls_of_sansRadio (requestSlot_sansRadio i d)
@[simp] theorem requestSlot_entries (i : Fin 13) (d : Device) : (requestSlot i d).meas.entries = d.meas.entries :=
  entries_of_sansRadio (requestSlot_sansRadio i d)
@[simp] theorem requestSlot_lock (i : Fin 13) (d : Device) : (requestSlot i d).meas.lock = d.meas.lock :=
  lock_of_sansRadio (requestSlot_sansRadio i d)
@[simp] theorem requestSlot_lockHold (i : Fin 13) (d : Device) : (requestSlot i d).meas.lockHold = d.meas.lockHold :=
  lockHold_of_sansRadio (requestSlot_sansRadio i d)
@[simp] theorem requestSlot_intake (i : Fin 13) (d : Device) : (requestSlot i d).modem.intake = d.modem.intake :=
  intake_of_sansRadio (requestSlot_sansRadio i d)
@[simp] theorem requestSlot_deviceLane (i : Fin 13) (d : Device) : (requestSlot i d).modem.deviceLane = d.modem.deviceLane :=
  deviceLane_of_sansRadio (requestSlot_sansRadio i d)
@[simp] theorem requestSlot_hostLane (i : Fin 13) (d : Device) : (requestSlot i d).modem.hostLane = d.modem.hostLane :=
  hostLane_of_sansRadio (requestSlot_sansRadio i d)
@[simp] theorem requestSlot_portParams (i : Fin 13) (d : Device) : (requestSlot i d).modem.params = d.modem.params :=
  portParams_of_sansRadio (requestSlot_sansRadio i d)

@[simp] theorem releaseSlot_inReset (i : Fin 13) (d : Device) : (releaseSlot i d).inReset = d.inReset :=
  inReset_of_sansRadio (releaseSlot_sansRadio i d)
@[simp] theorem releaseSlot_lastReset (i : Fin 13) (d : Device) : (releaseSlot i d).lastReset = d.lastReset :=
  lastReset_of_sansRadio (releaseSlot_sansRadio i d)
@[simp] theorem releaseSlot_disp (i : Fin 13) (d : Device) : (releaseSlot i d).disp = d.disp :=
  disp_of_sansRadio (releaseSlot_sansRadio i d)
@[simp] theorem releaseSlot_lines (i : Fin 13) (d : Device) : (releaseSlot i d).lines = d.lines :=
  lines_of_sansRadio (releaseSlot_sansRadio i d)
@[simp] theorem releaseSlot_text (i : Fin 13) (d : Device) : (releaseSlot i d).text = d.text :=
  text_of_sansRadio (releaseSlot_sansRadio i d)
@[simp] theorem releaseSlot_calls (i : Fin 13) (d : Device) : (releaseSlot i d).calls = d.calls :=
  calls_of_sansRadio (releaseSlot_sansRadio i d)
@[simp] theorem releaseSlot_entries (i : Fin 13) (d : Device) : (releaseSlot i d).meas.entries = d.meas.entries :=
  entries_of_sansRadio (releaseSlot_sansRadio i d)
@[simp] theorem releaseSlot_lock (i : Fin 13) (d : Device) : (releaseSlot i d).meas.lock = d.meas.lock :=
  lock_of_sansRadio (releaseSlot_sansRadio i d)
@[simp] theorem releaseSlot_lockHold (i : Fin 13) (d : Device) : (releaseSlot i d).meas.lockHold = d.meas.lockHold :=
  lockHold_of_sansRadio (releaseSlot_sansRadio i d)
@[simp] theorem releaseSlot_intake (i : Fin 13) (d : Device) : (releaseSlot i d).modem.intake = d.modem.intake :=
  intake_of_sansRadio (releaseSlot_sansRadio i d)
@[simp] theorem releaseSlot_deviceLane (i : Fin 13) (d : Device) : (releaseSlot i d).modem.deviceLane = d.modem.deviceLane :=
  deviceLane_of_sansRadio (releaseSlot_sansRadio i d)
@[simp] theorem releaseSlot_hostLane (i : Fin 13) (d : Device) : (releaseSlot i d).modem.hostLane = d.modem.hostLane :=
  hostLane_of_sansRadio (releaseSlot_sansRadio i d)
@[simp] theorem releaseSlot_portParams (i : Fin 13) (d : Device) : (releaseSlot i d).modem.params = d.modem.params :=
  portParams_of_sansRadio (releaseSlot_sansRadio i d)

@[simp] theorem withdrawSlots_inReset (is : List (Fin 13)) (d : Device) : (withdrawSlots is d).inReset = d.inReset :=
  inReset_of_sansRadio (withdrawSlots_sansRadio is d)
@[simp] theorem withdrawSlots_lastReset (is : List (Fin 13)) (d : Device) : (withdrawSlots is d).lastReset = d.lastReset :=
  lastReset_of_sansRadio (withdrawSlots_sansRadio is d)
@[simp] theorem withdrawSlots_disp (is : List (Fin 13)) (d : Device) : (withdrawSlots is d).disp = d.disp :=
  disp_of_sansRadio (withdrawSlots_sansRadio is d)
@[simp] theorem withdrawSlots_lines (is : List (Fin 13)) (d : Device) : (withdrawSlots is d).lines = d.lines :=
  lines_of_sansRadio (withdrawSlots_sansRadio is d)
@[simp] theorem withdrawSlots_text (is : List (Fin 13)) (d : Device) : (withdrawSlots is d).text = d.text :=
  text_of_sansRadio (withdrawSlots_sansRadio is d)
@[simp] theorem withdrawSlots_calls (is : List (Fin 13)) (d : Device) : (withdrawSlots is d).calls = d.calls :=
  calls_of_sansRadio (withdrawSlots_sansRadio is d)
@[simp] theorem withdrawSlots_entries (is : List (Fin 13)) (d : Device) : (withdrawSlots is d).meas.entries = d.meas.entries :=
  entries_of_sansRadio (withdrawSlots_sansRadio is d)
@[simp] theorem withdrawSlots_lock (is : List (Fin 13)) (d : Device) : (withdrawSlots is d).meas.lock = d.meas.lock :=
  lock_of_sansRadio (withdrawSlots_sansRadio is d)
@[simp] theorem withdrawSlots_lockHold (is : List (Fin 13)) (d : Device) : (withdrawSlots is d).meas.lockHold = d.meas.lockHold :=
  lockHold_of_sansRadio (withdrawSlots_sansRadio is d)
@[simp] theorem withdrawSlots_intake (is : List (Fin 13)) (d : Device) : (withdrawSlots is d).modem.intake = d.modem.intake :=
  intake_of_sansRadio (withdrawSlots_sansRadio is d)
@[simp] theorem withdrawSlots_deviceLane (is : List (Fin 13)) (d : Device) : (withdrawSlots is d).modem.deviceLane = d.modem.deviceLane :=
  deviceLane_of_sansRadio (withdrawSlots_sansRadio is d)
@[simp] theorem withdrawSlots_hostLane (is : List (Fin 13)) (d : Device) : (withdrawSlots is d).modem.hostLane = d.modem.hostLane :=
  hostLane_of_sansRadio (withdrawSlots_sansRadio is d)
@[simp] theorem withdrawSlots_portParams (is : List (Fin 13)) (d : Device) : (withdrawSlots is d).modem.params = d.modem.params :=
  portParams_of_sansRadio (withdrawSlots_sansRadio is d)

end Sys2Proof.Machine
end

