-- ==== Sys2Proof/Laws/Time.lean ====
section
/-! SUPPORT. What `live` and the passing of time can do: a row with RESET-N high is its effect on the part, and the expiry of a
timer that has run out is taken without time passing. -/

namespace Sys2Proof.Machine

/-- With RESET-N high a row is its effect. -/
theorem live_of_running (f : Device → Device) {d : Device} (q : List Instr) (h : d.inReset = false) :
    live f ⟨d, q⟩ = .next ⟨f d, q⟩ := by
  simp [live, h]

/-- With RESET-N low a row has no effect. -/
theorem live_of_reset (f : Device → Device) {d : Device} (q : List Instr) (h : d.inReset = true) :
    live f ⟨d, q⟩ = .next ⟨d, q⟩ := by
  simp [live, h]

theorem countDown_zero (t : Option Nat) : countDown 0 t = t := by
  cases t <;> simp [countDown]

theorem Guard.countDown_zero (g : Guard) : g.countDown 0 = g := by
  cases g <;> simp [Guard.countDown]

theorem Tab.all_id {α : Type} {n : Nat} (t : Tab α n) (f : α → α) (h : ∀ x, f x = x) : t.all f = t := by
  have hf : f = id := funext h
  subst hf
  simp [Tab.all]

/-- No time passes in 0 ms. -/
theorem passMs_zero (d : Device) : passMs 0 d = d := by
  have hh (a : Option Holder) : a.map (fun h => { h with grantTimer := countDown 0 h.grantTimer }) = a := by
    cases a <;> simp [countDown_zero]
  have hl (a : Option Lock) : a.map (fun k => { k with left := k.left - 0 }) = a := by cases a <;> simp
  have ht (a : Tab (Option TextRec) 8) :
      a.all (fun r => r.map fun r => { r with ageMs := r.ageMs + 0, timer := countDown 0 r.timer }) = a :=
    Tab.all_id _ _ fun x => by cases x <;> simp [countDown_zero]
  have hc (a : Tab (Option CallRec) 4) : a.all (fun r => r.map fun r => { r with guard := r.guard.countDown 0 }) = a :=
    Tab.all_id _ _ fun x => by cases x <;> simp [Guard.countDown_zero]
  have he (a : Tab Entry 24) :
      a.all (fun e => { e with penalty := countDown 0 e.penalty, bar := countDown 0 e.bar }) = a :=
    Tab.all_id _ _ fun x => by simp [countDown_zero]
  unfold passMs
  rw [hh, hl, ht, hc, he]
  simp only [countDown_zero, Nat.add_zero, ite_self]

/-- A timer that has run out expires with no time passing. -/
theorem afterMs_due (f : Device → Device) (d : Device) : afterMs (some 0) f d = f d := by
  simp [afterMs, passMs_zero]

/-- A row of a timer that is stopped has no effect. -/
theorem afterMs_stopped (f : Device → Device) (d : Device) : afterMs none f d = d := rfl

/-- With an idle delay, the idle condition's events touch the Sleep Controller alone. -/
theorem idleEvent_only_sleep {d : Device} (before : Bool) (h : d.sleep.settings.idleDelay ≠ 0) :
    ∃ s, idleEvent before d = { d with sleep := s } := by
  unfold idleEvent idleBreaks startIdle
  split
  · split <;> exact ⟨_, rfl⟩
  · split
    · split <;> exact ⟨_, rfl⟩
    · exact ⟨_, rfl⟩

end Sys2Proof.Machine
end

