-- ==== Sys2Proof/Tests/Slice0.lean ====
section
/-! SUPPORT. Tests on small parts: the smoke tests of WellFormed, values that the manual writes out, and for every obligation
with hypotheses a state and operands that meet each clause of them. -/

namespace Sys2Proof.Tests

-- One theorem after another: the kernel evaluations would otherwise each hold a thread.
set_option Elab.async false

open Sys2Proof
open Sys2Proof.Machine

/-! ### Builders -/

/-- The part after Cold Reset. -/
def cold : Device := Device.reset

/-- The part that a row leaves. -/
def after (i : Instr) (d : Device) : Device :=
  match exec i ⟨d, []⟩ with
  | .next s => s.dev
  | _ => d

/-- A command head for a target and an index. -/
def head (target : Byte) (index : Half) : CmdHead := ⟨0, 7, target, index⟩

/-- The bytes of a frame with Tag 0 and Link Count 5. -/
def bytesOf (k : Kind) (line : BitVec 2) (payload : List Byte) : List Byte :=
  headerBytes k line 0 0 (BitVec.ofNat 16 payload.length) 5 ++ payload ++ halfBytes (frameCheck k line 0 0 5 payload)

/-- A delimited frame with an empty payload of which nothing can be read. -/
def wire (k : Kind) (line : BitVec 2) : WireFrame := ⟨bytesOf k line [], {}⟩

/-- A SIGNAL frame of a line. -/
def signal (line : BitVec 2) (f : Fields) : LinkFrame := ⟨.signal, line, 0, 0, [], f⟩

/-- A state of a line. -/
def inState (l : LineId) (s : LineState) (d : Device) : Device := d.onLine l fun r => { r with state := s }

/-- A holder of the radio. -/
def holding (slot : Fin 13) (phase : HoldPhase) (count : Nat) (timer : Option Nat) (d : Device) : Device :=
  d.onArb fun a => { a with holder := some ⟨slot, phase, .whenDone, 9, 4, timer, count, false⟩ }

/-- A slot that waits. -/
def waiting (slot : Fin 13) (d : Device) : Device := d.onSlot slot fun s => { s with want := .pending }

/-- A neighbour entry of Line A. -/
def listed (i : Fin 24) (c : Cell) (d : Device) : Device :=
  d.onEntry i fun _ => { Entry.free with cell := c, own := ⟨true, false⟩, state := .listed }

/-- Line A with a serving cell. -/
def serving (s : LineState) : Device :=
  (listed 2 ⟨512, 17⟩ cold).onLine .a fun r => { r with state := s, serving := some 2, cycle := some 128, qhyst := some 8 }

/-- A call record of Line A. -/
def record (s : CallState) (ref : Nat) : CallRec := ⟨.a, .incoming, ref, s, .running 0, none, none⟩

/-- Line A Connected with a record. -/
def inCall (k : Fin 4) (r : CallRec) : Device := (serving .connected).onCall k fun _ => some r

/-- A delivered frame in the Host-bound Queue. -/
def queued : HostFrame := ⟨1, .normal, 0, .delivered (signal 1 {})⟩

/-- A voice or order frame in a lane. -/
def laneFrame : ModemFrame := ⟨1, 0, 0, .pause 3⟩

/-- The part with the host at a power state. -/
def power (p : Power) : Device := cold.onSleep fun s => { s with power := p, idle := none }

/-- A modem frame's walk is in progress, under the host power of its start. -/
def walkingOn (f : LinkFrame) (p : Power) (d : Device) : Device := d.onDisp fun t => { t with walking := some ⟨f, p⟩ }

theorem cold_listening : Listening cold := ⟨rfl, rfl, rfl, rfl⟩
theorem cold_commandable : Commandable cold := ⟨cold_listening, rfl, by decide⟩

/-! ### WellFormed refuses what a row may not carry -/

theorem test_wf_cell : (Instr.syncFound 0 (some ⟨4096, 0⟩)).wf = false ∧ (Instr.syncFound 0 (some ⟨4095, 511⟩)).wf = true := by
  decide
theorem test_wf_cell_code : (Instr.syncLost 0 (some ⟨0, 512⟩)).wf = false ∧ (Instr.syncLost 0 none).wf = true := by decide
theorem test_wf_cycle : (Instr.modemFrameIntake ⟨[], { cycle := some 100 }⟩).wf = false := by decide
theorem test_wf_qhyst : (Instr.modemFrameIntake ⟨[], { qhyst := some 25 }⟩).wf = false := by decide
theorem test_wf_fields : (Instr.modemFrameIntake ⟨[], { cycle := some 128, qhyst := some 24 }⟩).wf = true := by decide
theorem test_wf_host_kind : (Instr.hostFrameIntake (wire .page 1)).wf = false := by decide +kernel
theorem test_wf_host_signal : (Instr.hostFrameIntake (wire .signal 1)).wf = true := by decide +kernel
theorem test_wf_pause : (Instr.hostPause (bytesOf .signal 0 [])).wf = false ∧ (Instr.hostPause (bytesOf .pause 0 [0, 1])).wf = true := by
  decide +kernel
theorem test_wf_error : (Instr.hostLinkFrameError (bytesOf .pause 0 [])).wf = false ∧ (Instr.hostLinkFrameError []).wf = true := by
  decide +kernel
theorem test_wf_target : (Instr.classTableWrite (head 4 0) .misfit).wf = false ∧ (Instr.classTableWrite (head 3 0) .misfit).wf = true := by
  decide
theorem test_wf_identity : (Instr.identityTableWrite .b (head 9 0) .misfit).wf = false
    ∧ (Instr.identityTableWrite .a (head 9 0) .misfit).wf = true := by decide
theorem test_wf_unknown_number : (Instr.unknownCommand (head 0 0) (.number 15)).wf = false
    ∧ (Instr.unknownCommand (head 0 0) (.number 16)).wf = true := by decide
theorem test_wf_unknown_table : (Instr.unknownCommand (head 12 0) (.table 12)).wf = false
    ∧ (Instr.unknownCommand (head 13 0) (.table 13)).wf = true := by decide

/-- The table gives no bits, so no word spells a row. -/
theorem test_no_word_spells_a_row : decodeTableWord 0 0 = none := rfl

/-! ### Values that the manual writes out -/

/-- The reference value of R2: the check of the nine ASCII bytes 123456789 is 10673. -/
theorem test_check_reference : crc16 [0x31, 0x32, 0x33, 0x34, 0x35, 0x36, 0x37, 0x38, 0x39] = 10673 := by decide +kernel

/-- Numbers of R5 and the layout of R1. -/
theorem test_header_bytes : headerBytes .pause 2 1 3 2 0x1234 = [0x69, 3, 0, 2, 0x12, 0x34] := by decide

/-- Idle after reset: one tick of the idle timer, which runs at 2000 ms (R164, R172). -/
theorem test_tick : ∀ s, step State.reset = .next s → s.dev.sleep.idle = some 1999 := by
  intro s h
  injection h with h
  subst h
  rfl

/-- R23: with RESET-N low, nothing but COLD_RESET acts. -/
theorem test_reset_low : (after (.forcePause (head 0 0) (.fits 3)) (after .resetNLow cold)).modem.deviceLane = [] := by
  decide +kernel

/-! #### Chapter 8: the worked cases of the filter, k = 2 (R138 to R140) -/

theorem test_filter_rising : filterStep 2 (-6080) (-366) = -6024 ∧ reportedLevel (-6024) = -376 := by decide
theorem test_filter_falling : filterStep 2 (-6024) (-389) = -6074 ∧ reportedLevel (-6074) = -380 := by decide
theorem test_filter_clamped : filterStep 2 (-6074) (-560) = -6795 ∧ reportedLevel (-6795) = -425 := by decide
theorem test_filter_unfiltered : filterStep 0 (-6080) (-366) = -5856 ∧ reportedLevel (-5856) = -366 := by decide
theorem test_filter_first : ((Entry.free).detected LineParams.default (-380) 9).filter = some (-6080) := by decide

/-! #### Chapter 4: the worked sequences -/

/-- R68: after slot 4, the rotation examines 5 first, where Fixed mode takes the highest level. -/
def fourWaiting (mode : ArbMode) : Device :=
  waiting 2 (waiting 5 (waiting 8 (waiting 11 (cold.onArb fun a => { a with mode := mode, pointer := 4 }))))

theorem test_rotating_after_pointer : chooseSlot (fourWaiting .rotating) = some 5 := by decide +kernel
theorem test_fixed_takes_level : chooseSlot (fourWaiting .fixed) = some 2 := by decide +kernel
theorem test_split_rotates_below_top : chooseSlot (fourWaiting .split) = some 5 := by decide +kernel

/-- A grant of a SEARCH slot that no READY answers: CANCEL with its window number. -/
theorem test_grant_timeout_cancels :
    (after .grantTimeout (holding 4 .granted 0 (some 0) cold)).modem.orderLane = [⟨1, 0, 0, .order ⟨.cancel, 9, 0, .none⟩⟩] := by
  decide +kernel

/-- A READY of a window number that is not current draws CANCEL with its own number. -/
theorem test_stale_ready :
    (after (.ready 0 (some 77)) (holding 9 .granted 0 (some 5) cold)).modem.orderLane
      = [⟨0, 0, 0, .order ⟨.cancel, 77, 0, .none⟩⟩] := by
  decide +kernel

/-- The window watch ends a window of 4 frames at the sixth boundary, not at the fifth. -/
theorem test_overrun_at_length_plus_two :
    (after .windowOverrun (holding 4 .active 5 none cold)).arb.holder ≠ none
    ∧ (after .windowOverrun (holding 4 .active 6 none cold)).arb.holder = none := by
  decide +kernel

/-! #### Chapter 3: from start to loss -/

/-- The channels of the search request: 512 once, then 780; the search position is 9 (R45). -/
def threeListed : Device := listed 2 ⟨512, 17⟩ (listed 5 ⟨512, 40⟩ (listed 9 ⟨780, 3⟩ cold))

theorem test_line_start_searches :
    let t := after (.lineStart (head 1 0) (.fits ())) threeListed
    t.lineState .a = .searching ∧ (t.line .a).searchList = [512, 780] ∧ slotState t 5 = .granted := by
  decide +kernel

theorem test_sync_lost_starts_timer :
    ((after (.syncLost 0 (some ⟨512, 17⟩)) (serving .connected)).line .a).radioLink = .running 200 := by
  decide +kernel

theorem test_radio_link_expiry_searches :
    let t := after (.radioLinkExpiry .a) ((serving .connected).onLine .a fun r => { r with radioLink := .running 0 })
    t.lineState .a = .searching ∧ (t.line .a).lossCause = some .sync ∧ (t.cond .f4).on = true := by
  decide +kernel

/-! #### Chapters 6, 7, 9, 10 and 11 -/

theorem test_identify_data :
    (after (.identify (head 0 0) (.fits ())) cold).host.queue
      = [⟨0, .urgent, 7, .reply ⟨1, .data (.identify 2240 1 [32, 48, 64, 24, 4, 8, 48, 13, 4, 4] .cold)⟩⟩] := by
  decide +kernel

theorem test_wake_guard_code_6 : guardTime 6 = some 32 ∧ guardTime 12 = some 2048 := by decide

theorem test_sleep_enter_refused_busy :
    (after (.sleepEnter (head 0 0) (.fits ())) (cold.onHost fun h => { h with queue := [queued] })).host.queue
      = [⟨0, .urgent, 7, .reply ⟨9, .refused .busy⟩⟩, queued] := by
  decide +kernel

theorem test_third_response_raises_f5 :
    let d := (power .waking).onSleep fun s => { s with wake := true, response := some 0, repulses := 2 }
    ((after .wakeResponseExpiry d).cond .f5).on = true ∧ (after .wakeResponseExpiry d).sleep.response = none := by
  decide +kernel

theorem test_offer_guard_no_answer :
    (after (.offerGuardExpiry 1) (inCall 1 (record .offered 12))).modem.deviceLane
      = [⟨1, 0, 1, .callClear 12 .noAnswer⟩] := by
  decide +kernel

theorem test_request_guard_timeout :
    (after (.requestGuardExpiry 0) (inCall 0 { record .requested 5 with dir := .outgoing })).modem.deviceLane
      = [⟨1, 0, 0, .callClear 5 .timeout⟩] := by
  decide +kernel

theorem test_unknown_refused :
    (after (.unknownCommand (head 0 0) (.number 16)) cold).host.queue = [⟨0, .urgent, 7, .reply ⟨16, .refused .unknown⟩⟩] := by
  decide +kernel

theorem test_force_pause :
    (after (.forcePause (head 0 0) (.fits 300)) cold).modem.deviceLane = [⟨0, 0, 0, .pause 300⟩] := by
  decide +kernel

theorem test_write_unlock_without_lock :
    (after (.writeUnlock (head 0 3) (.fits ⟨⟨1, 1⟩, true, false, 0, 0, 0, true, true⟩)) cold).host.queue
      = [⟨0, .urgent, 7, .reply ⟨5, .refused .locked⟩⟩] := by
  decide +kernel

theorem test_walk_drops :
    let d := (cold.onDisp fun t => { t with entries := t.entries.upd 1 fun _ => ⟨none, .drop⟩ }).onModem
      fun m => { m with intake := [signal 1 { mtype := .callOffer, callRef := some 3 }] }
    (after .dispatchWalk d).modem.intake = [] ∧ (after .dispatchWalk d).host.queue = [] := by
  decide +kernel

theorem test_default_tracks_undefined_type :
    let d := (serving .connected).onHost fun h => { h with input := some (signal 1 { mtype := .undefined 99 }) }
    (after .dispatchWalk d).modem.hostLane.length = 1 ∧ (after .dispatchWalk d).host.input = none := by
  decide +kernel

theorem test_call_offer_rejected_busy :
    let d := (inCall 0 (record .active 9)).onModem fun m => { m with intake := [signal 2 { mtype := .callOffer, callRef := some 12 }] }
    let e := d.onLine .b fun r => { r with state := .camped, serving := some 2, cycle := some 64, qhyst := some 0 }
    (after .dispatchWalk e).modem.deviceLane = [⟨2, 0, 255, .callClear 12 .busy⟩] := by
  decide +kernel

/-- The notice heads of section 1.3: kind, Code, Subject with its more significant byte first (R91, R92, R102, R180). -/
theorem test_notice_heads :
    noticeHead ⟨9, .condition .w7 1 none⟩ = [8, 7, 0, 9]
    ∧ noticeHead ⟨0x0203, .text .partialText .timeout 2 1 [2] 120 []⟩ = [2, 2, 2, 3]
    ∧ noticeHead ⟨0x0203, .text .whole .complete 1 1 [] 0 []⟩ = [2, 1, 2, 3]
    ∧ noticeHead ⟨3, .servicePage 5 ⟨512, 17⟩ 0⟩ = [9, 0, 0, 3] := by decide

/-- R174: a Write-Unlock whose body does not fit is refused before it executes, and leaves the lock. -/
theorem test_misfit_write_unlock_keeps_lock :
    (after (.writeUnlock (head 0 3) .misfit) (cold.onMeas fun m => { m with lock := some ⟨3, 40, none⟩ })).meas.lock
      = some ⟨3, 40, none⟩ := by
  decide +kernel

/-- R178: Warm Reset offers no notice, so that its REPLY stands alone even where the idle delay is 0. -/
theorem test_warm_reset_offers_no_notice :
    (after (.warmReset (head 0 0) (.fits ())) (cold.onSleep fun s => { s with settings := { s.settings with idleDelay := 0 } })).host.queue
      = [⟨0, .urgent, 7, .reply ⟨15, .done⟩⟩] := by
  decide +kernel

/-- R3, R124, log entry 12: a host VOICE frame goes to the Voice lane with its record's tag, and its header keeps its own. -/
theorem test_voice_tag :
    let f : LinkFrame := ⟨.voice, 1, 0, 77, [], { callRef := some 9, seq := some 4, voice := some [1] }⟩
    (gateUp f (holding 1 .active 0 none (inCall 2 (record .active 9)))).modem.voiceLane
      = [⟨1, 0, 2, .forwarded f⟩]
    ∧ ((sendModem ⟨1, 0, 2, .forwarded f⟩ cold).modem.sent.map fun x => x.frame.tag) = some 77 := by
  decide +kernel

/-! ### Witnesses: each clause of each obligation has a state and operands that meet its hypotheses -/

theorem witness_StepRunsFrontCommand : cold.inReset = false ∧ ({ cold with inReset := true } : Device).inReset = true := by
  decide

theorem witness_RowsAnswerNextAndResetHolds :
    cold.inReset = false
    ∧ ({ cold with inReset := true } : Device).inReset = true ∧ Instr.resetNLow ≠ .coldReset := by decide

theorem witness_WarmResetKeepsSettings : Listening cold ∧ (head 0 0).target = 0 ∧ (head 0 0).index = 0 :=
  ⟨cold_listening, rfl, rfl⟩

theorem witness_WarmResetKeepsSettings_walking :
    let d := walkingOn (signal 1 {}) .asleep cold
    Listening d ∧ d.disp.walking = some ⟨signal 1 {}, .asleep⟩ :=
  ⟨⟨rfl, rfl, rfl, rfl⟩, rfl⟩

theorem reset_steps : ∃ t, step State.reset = .next t := ⟨_, rfl⟩

theorem cold_bounded : cold.Bounded :=
  ⟨by decide, by decide, by decide, by decide, by decide, by decide, by decide,
    fun l => by cases l <;> exact ⟨by decide, by decide, by decide⟩⟩

theorem cold_linesFit : cold.LinesFit where
  serving l := by cases l <;> rfl
  marks l i := by revert i; cases l <;> decide +kernel
  owned l i h := by cases l <;> exact nomatch h
  single := by decide
  move l m h := by cases l <;> exact nomatch h
  moving l h := by cases l <;> exact nomatch h

theorem cold_callsFit : cold.CallsFit := by
  have none_of : ∀ k r, cold.call k ≠ some r := fun k r h => by
    rw [(by decide : ∀ k, cold.call k = none) k] at h
    exact nomatch h
  have line : ∀ l, cold.carriesCall l = false := fun l => by cases l <;> rfl
  exact ⟨fun k r h => (none_of k r h).elim, fun l h => absurd h (by rw [line l]; decide),
    fun j _ r _ h => (none_of j r h).elim, fun j _ r _ h => (none_of j r h).elim⟩

theorem cold_poolFits : cold.PoolFits := by
  have recs : ∀ r, cold.text? r = none := by decide
  have pool : ∀ i, cold.text.pool.get i = none := by decide
  have held : ∀ r, cold.heldSlots r = [] := fun r => by rw [Device.heldSlots, recs r]; rfl
  refine ⟨fun r i => ?_, fun r => ?_, by decide, ⟨by decide, by decide⟩, fun r u x y h => ?_⟩
  · rw [held r, pool i]
    simp
  · rw [held r]
    exact .nil
  · rw [recs r] at h
    exact nomatch h

theorem cold_cellsFit : cold.CellsFit :=
  ⟨by decide, fun i _ h => absurd ((by decide : ∀ i, (cold.entry i).state = .free) i) h⟩

/-- The state after reset meets every invariant, and it takes a step. -/
theorem witness_StoresKeepTheirCapacities : State.reset.dev.Bounded ∧ ∃ t, step State.reset = .next t :=
  ⟨cold_bounded, reset_steps⟩

theorem witness_LinesKeepTheirServingCells : State.reset.dev.LinesFit ∧ ∃ t, step State.reset = .next t :=
  ⟨cold_linesFit, reset_steps⟩

theorem witness_CallRecordsFitTheirLines :
    State.reset.dev.LinesFit ∧ State.reset.dev.CallsFit ∧ ∃ t, step State.reset = .next t :=
  ⟨cold_linesFit, cold_callsFit, reset_steps⟩

theorem witness_PartPoolMatchesTheRecords : State.reset.dev.PoolFits ∧ ∃ t, step State.reset = .next t :=
  ⟨cold_poolFits, reset_steps⟩

theorem witness_NeighbourCellsStayUnique : State.reset.dev.CellsFit ∧ ∃ t, step State.reset = .next t :=
  ⟨cold_cellsFit, reset_steps⟩

theorem witness_SettingsChangeOnlyByWrites :
    writesSettings .idleTimerExpiry = false ∧ ∃ t, exec .idleTimerExpiry State.reset = .next t := ⟨rfl, _, rfl⟩

theorem witness_LinkFrameRoundTrip :
    accepts .modem .signal = true ∧ (1 : BitVec 2) ≠ 3 ∧ (List.replicate 3072 (0 : Byte)).length ≤ 3072 := by
  refine ⟨rfl, by decide, ?_⟩
  rw [List.length_replicate]

theorem witness_IntakeErrorsKeepNothing :
    cold.inReset = false ∧ Listening cold ∧ intakeError .modem (wire .reply 0).bytes = some .kind
    ∧ intakeError .modem [] = some .short ∧ intakeError .host (bytesOf .page 0 []) = some .kind
    ∧ (cold.cond .w1).on = false ∧ (cold.cond .w1).mask = false ∧ cold.host.queue.length < 48
    ∧ ((cold.onCond .w2 fun r => { r with on := true }).cond .w2).on = true :=
  ⟨rfl, cold_listening, by decide +kernel⟩

theorem witness_ModemFrameJoinsIntake :
    let d := cold.onModem fun m => { m with intake := List.replicate 22 (signal 1 {}) }
    d.inReset = false ∧ intakeError .modem (wire .page 1).bytes = none ∧ (headerOf (wire .page 1).bytes).kind = some .page
    ∧ Kind.page ≠ .radio ∧ d.modem.intake.length < 32 ∧ d.modem.intake.length + 1 < d.modem.params.pauseOn := by
  decide +kernel

theorem witness_ModemFrameJoinsIntake_pausing :
    let d := cold.onModem fun m => { m with intake := List.replicate 31 (signal 1 {}), pausing := some 5 }
    d.inReset = false ∧ intakeError .modem (wire .voice 1).bytes = none ∧ (headerOf (wire .voice 1).bytes).kind = some .voice
    ∧ d.modem.intake.length < 32 ∧ d.modem.pausing ≠ none := by
  decide +kernel

theorem witness_ModemFrameJoinsIntake_watermark :
    let d := cold.onModem fun m => { m with intake := List.replicate 23 (signal 1 {}) }
    d.inReset = false ∧ intakeError .modem (wire .signal 1).bytes = none ∧ (headerOf (wire .signal 1).bytes).kind = some .signal
    ∧ Kind.signal ≠ .radio ∧ d.modem.intake.length < 32 ∧ d.modem.pausing = none
    ∧ d.modem.params.pauseOn ≤ d.modem.intake.length + 1 ∧ d.modem.deviceLane.length < 8 := by
  decide +kernel

theorem witness_ModemFrameJoinsIntake_full :
    let d := cold.onModem fun m => { m with intake := List.replicate 32 (signal 1 {}) }
    d.inReset = false ∧ intakeError .modem (wire .sample 2).bytes = none ∧ (headerOf (wire .sample 2).bytes).kind = some .sample
    ∧ intakeError .modem (wire .voice 2).bytes = none ∧ (headerOf (wire .voice 2).bytes).kind = some .voice
    ∧ Kind.sample ≠ .radio ∧ 32 ≤ d.modem.intake.length
    ∧ intakeError .modem (wire .radio 0).bytes = none ∧ (headerOf (wire .radio 0).bytes).kind = some .radio := by
  decide +kernel

theorem witness_HostFramesAndPauses :
    Listening cold ∧ intakeError .host (wire .voice 2).bytes = none ∧ (headerOf (wire .voice 2).bytes).kind = some .voice
    ∧ (headerOf (wire .signal 1).bytes).kind = some .signal
    ∧ intakeError .host (bytesOf .pause 0 [0, 0]) = none ∧ (headerOf (bytesOf .pause 0 [0, 0])).kind = some .pause
    ∧ payloadOf (bytesOf .pause 0 [0, 0]) = [0, 0] ∧ payloadOf (bytesOf .pause 0 [0xFF, 0xFF]) = [0xFF, 0xFF]
    ∧ intakeError .host (bytesOf .pause 0 [1]) = none ∧ (payloadOf (bytesOf .pause 0 [1])).length ≠ 2 :=
  ⟨cold_listening, by decide +kernel⟩

theorem witness_HostFramesAndPauses_blocked :
    let d := cold.onHost fun h => { h with input := some (signal 1 {}) }
    fromHost (.identify (head 0 0) (.fits ())) = true ∧ d.inReset = false ∧ linkBlocked d = true := by decide

theorem witness_DueTimersAct :
    (cold.onHost fun h => { h with pauseTimer := some 0 }).host.pauseTimer = some 0
    ∧ (cold.onModem fun m => { m with pausing := some 0 }).modem.pausing = some 0
    ∧ ((cold.onEntry 23 fun e => { e with penalty := some 0 }).entry 23).penalty = some 0
    ∧ (let d := cold.onEntry 0 fun e => { e with state := .barred, bar := some 0 }
       (d.entry 0).state = .barred ∧ (d.entry 0).bar = some 0)
    ∧ (cold.onSleep fun s => { s with repulse := some 0 }).sleep.repulse = some 0 := by
  decide +kernel

theorem witness_DueTimersAct_requests :
    (let d := holding 7 .active 1 none (cold.onMeasLine .a fun m => { m with timer := .running 0, sched := .interval })
     d.inReset = false ∧ d.arb.holder = some ⟨7, .active, .whenDone, 9, 4, none, 1, false⟩ ∧ (7 : Fin 13) ≠ slotOf .measure .a
     ∧ slotState d (slotOf .measure .a) = .idle ∧ (d.measLine .a).timer = .running 0)
    ∧ (let d := holding 7 .active 1 none ((listed 2 ⟨512, 17⟩ cold).onLine .a fun r =>
         { r with state := .searching, retry := some 0 })
       (7 : Fin 13) ≠ slotOf .search .a ∧ slotState d (slotOf .search .a) = .idle ∧ d.lineState .a = .searching
       ∧ (d.line .a).retry = some 0 ∧ (d.entry 2).own.get .a = true ∧ (d.entry 2).state = .listed) := by
  decide +kernel

/-! #### Dispatch -/

/-- The entries of SIGNAL in both directions drop by default; downlink SIGNAL of Line B is dropped by rule 63. -/
def dropping : Dispatcher :=
  { cold.disp with
    entries := (cold.disp.entries.upd 1 fun _ => ⟨some 63, .drop⟩).upd 4 fun _ => ⟨some 63, .drop⟩
    rules := cold.disp.rules.upd 63 fun _ => ⟨true, .any, .any, .is (some .b), .any, .drop, 0, none, .normal⟩ }

/-- A rule that jumps to itself, at which every downlink SIGNAL frame starts. -/
def looping : Dispatcher :=
  { cold.disp with
    entries := cold.disp.entries.upd 1 fun _ => ⟨some 5, .drop⟩
    rules := cold.disp.rules.upd 5 fun _ => ⟨true, .any, .any, .any, .any, .jump, 5, none, .normal⟩ }

theorem witness_WalkFollowsTheChain :
    (cold.disp.entries.get (entryNumber .down .signal)).start = none
    ∧ ([63] : List (Fin 64)).head? = (dropping.entries.get (entryNumber .down .signal)).start
    ∧ ([63] : List (Fin 64)).getLast? = some 63 ∧ ([63] : List (Fin 64)).length ≤ 16
    ∧ (dropping.rules.get 63).visit .down .awake (signal 2 {}) = .apply .drop .normal
    ∧ (dropping.rules.get 63).visit .down .awake (signal 1 {}) = .ends
    ∧ (List.replicate 16 (5 : Fin 64)).head? = (looping.entries.get (entryNumber .down .signal)).start
    ∧ (List.replicate 16 (5 : Fin 64)).getLast? = some 5 ∧ (List.replicate 16 (5 : Fin 64)).length = 16
    ∧ (looping.rules.get 5).visit .down .awake (signal 1 {}) = .goOn 5
    ∧ walk looping .down .awake (signal 1 {}) = .overflow 5
    ∧ (looping.entries.get (entryNumber .down .signal)).default = .drop
    ∧ (let d := { cold with disp := looping }.onModem fun m => { m with intake := [signal 1 {}] }
       d.inReset = false ∧ d.disp.write = none ∧ d.host.link = [] ∧ d.sleep.power = .awake) := by
  decide +kernel

/-- A frame that the Dispatcher takes now, and one whose walk is in progress. -/
theorem witness_WalkFollowsTheChain_next :
    (∃ x, WalksNext ({ cold with disp := looping }.onModem fun m => { m with intake := [signal 1 {}] }) .down .awake (signal 1 {}) x
      ∧ x.disp = { looping with lastTurn := .modem })
    ∧ (let d := walkingOn (signal 1 {}) .asleep { cold with disp := looping }
       WalksNext d .down .asleep (signal 1 {}) { cold with disp := looping } ∧ d.disp.write = none ∧ d.host.link = []
       ∧ walk looping .down .asleep (signal 1 {}) = .overflow 5) :=
  ⟨⟨_, .inr ⟨rfl, rfl, rfl, rfl⟩, rfl⟩, .inl ⟨rfl, rfl, rfl⟩, rfl, rfl, by decide +kernel⟩

theorem witness_WalkFollowsTheChain_path :
    (List.replicate 16 (5 : Fin 64)).IsChain fun x y => (looping.rules.get x).visit .down .awake (signal 1 {}) = .goOn y := by
  decide +kernel

theorem witness_DropLeavesNothing :
    dropping.write = none
    ∧ walk dropping .down .awake (signal 2 {}) = .rule .drop .normal
    ∧ walk dropping .down .awake (signal 1 {}) = .default ∧ (dropping.entries.get (entryNumber .down .signal)).default = .drop
    ∧ walk dropping .up .awake (signal 2 {}) = .rule .drop .normal
    ∧ walk dropping .up .awake (signal 1 {}) = .default ∧ (dropping.entries.get (entryNumber .up .signal)).default = .drop
    ∧ (let d := { cold with disp := dropping }
       d.inReset = false ∧ d.host.link = [] ∧ d.modem.pausing = none ∧ d.modem.intake = [] ∧ d.host.input = none)
    ∧ (let d := ({ cold with disp := dropping } : Device).onModem fun m =>
         { m with intake := signal 2 {} :: List.replicate 8 (signal 1 {}), pausing := some 40 }
       d.modem.intake = signal 2 {} :: List.replicate 8 (signal 1 {}) ∧ d.modem.pausing ≠ none
       ∧ (List.replicate 8 (signal 1 {})).length ≤ d.modem.params.pauseOff ∧ d.modem.deviceLane.length < 8)
    ∧ (let d := cold.onModem fun m => { m with deviceLane := List.replicate 8 laneFrame }
       ¬ d.modem.deviceLane.length < 8)
    ∧ dropping.lastTurn = .host ∧ ({ dropping with lastTurn := .modem } : Dispatcher).lastTurn = .modem := by
  decide +kernel

/-- R27: a rule that names a sleeping host drops the frame of a walk that began Asleep, though the host is Awake by now. -/
def droppingAsleep : Dispatcher :=
  { cold.disp with
    entries := cold.disp.entries.upd 1 fun _ => ⟨some 63, .handle⟩
    rules := cold.disp.rules.upd 63 fun _ => ⟨true, .any, .any, .any, .is .asleepOrWaking, .drop, 0, none, .normal⟩ }

theorem witness_DropLeavesNothing_walking :
    let d := walkingOn (signal 1 {}) .asleep { cold with disp := droppingAsleep }
    d.inReset = false ∧ d.disp.write = none ∧ d.host.link = [] ∧ d.disp.walking = some ⟨signal 1 {}, .asleep⟩
    ∧ walk d.disp .down .asleep (signal 1 {}) = .rule .drop .normal ∧ d.sleep.power = .awake
    ∧ walk dropping .down .asleep (signal 1 {}) = .default ∧ (dropping.entries.get (entryNumber .down .signal)).default = .drop
    ∧ dropping.walking = none := by
  decide +kernel

/-- The walk in progress keeps the power of its start, though the arrival of the write has woken the host. -/
theorem test_walk_keeps_power :
    let d := ({ cold with disp := droppingAsleep } : Device).onModem fun m => { m with intake := [signal 1 { mtype := .cellInfo }] }
    let t := after (.dispatchTableWrite (head 2 0) .misfit true) (d.onSleep fun s => { s with power := .asleep, idle := none })
    t.sleep.power = .awake ∧ t.modem.intake = [] ∧ (after .dispatchWalk t).conds = t.conds
    ∧ ((after .dispatchWalk d).cond .w1).on = true := by
  decide +kernel

/-- A frame of a kind that waits in the Intake Queue, and one that waits in the host input place. -/
def walkedDown (f : LinkFrame) : Device := cold.onModem fun m => { m with intake := [f] }
def walkedUp (f : LinkFrame) : Device := cold.onHost fun h => { h with input := some f }

theorem witness_WalkHandsDownlinkFrames :
    (∀ k ∈ [Kind.page, .signal, .sample, .voice],
      let f : LinkFrame := ⟨k, 1, 0, 0, [], {}⟩
      (∃ x, (walkedDown f).inReset = false ∧ WalksNext (walkedDown f) .down .awake f x ∧ walk x.disp .down .awake f = .default)
      ∧ WalksNext (walkingOn f .asleep cold) .down .asleep f cold ∧ walk cold.disp .down .asleep f = .default)
    ∧ (cold.disp.entries.get (entryNumber .down .page)).default = .handle
    ∧ (cold.disp.entries.get (entryNumber .down .signal)).default = .both
    ∧ (cold.disp.entries.get (entryNumber .down .voice)).default = .handle
    ∧ (∀ a ∈ [Action.handle, .deliver, .both],
      let t := { cold.disp with
        entries := cold.disp.entries.map fun _ => ⟨some 0, .drop⟩
        rules := cold.disp.rules.upd 0 fun _ => ⟨true, .any, .any, .any, .any, a, 0, none, .bulk⟩ }
      ∀ k ∈ [Kind.page, .signal, .sample, .voice], walk t .down .awake ⟨k, 1, 0, 0, [], {}⟩ = .rule a .bulk) := by
  refine ⟨?_, by decide +kernel⟩
  intro k _
  exact ⟨⟨_, rfl, .inr ⟨rfl, rfl, rfl, rfl⟩, by cases k <;> decide +kernel⟩, .inl ⟨rfl, rfl, rfl⟩, by cases k <;> decide +kernel⟩

theorem witness_WalkSendsUplinkFrames :
    (∀ k ∈ [Kind.signal, .voice], ∀ line : BitVec 2,
      let f : LinkFrame := ⟨k, line, 0, 0, [], { mtype := .callHold }⟩
      ∃ x, (walkedUp f).inReset = false ∧ WalksNext (walkedUp f) .up .awake f x ∧ walk x.disp .up .awake f = .default
        ∧ Action.track = (x.disp.entries.get (entryNumber .up f.kind)).default)
    ∧ (let t := { cold.disp with
        entries := cold.disp.entries.map fun _ => ⟨some 0, .drop⟩
        rules := cold.disp.rules.upd 0 fun _ => ⟨true, .any, .any, .any, .any, .pass, 0, none, .bulk⟩ }
      ∀ k ∈ [Kind.signal, .voice], walk t .up .awake ⟨k, 1, 0, 0, [], {}⟩ = .rule .pass .bulk)
    ∧ LineId.ofField 0 = none ∧ LineId.ofField 2 = some .b := by
  refine ⟨?_, by decide +kernel⟩
  intro k hk line
  simp only [List.mem_cons, List.not_mem_nil, or_false] at hk
  obtain rfl | rfl := hk <;> exact ⟨_, rfl, .inr ⟨rfl, rfl, rfl, rfl⟩, rfl, rfl⟩

/-- A rule that a write may hold. -/
def ruleWrite : RuleWrite := ⟨true, some (.is .page), some .any, some .any, some .any, some .jump, 63, some 63, some .bulk⟩

theorem witness_DispatchTableWrites_rules :
    ((head 2 63).target.toNat = 2 ∧ [ruleWrite] ≠ [] ∧ ¬ 64 < (head 2 63).index.toNat + [ruleWrite].length
       ∧ ruleWrite.kind ∈ [some .any, some (.is .page), some (.is .signal), some (.is .sample), some (.is .voice)]
       ∧ ruleWrite.mtype = some .any ∧ ruleWrite.line ≠ none ∧ ruleWrite.power ≠ none ∧ ruleWrite.action ≠ none
       ∧ ruleWrite.cls ≠ none ∧ ¬ 64 ≤ ruleWrite.jump ∧ ruleWrite.missNext = some 63
       ∧ (let y : Rule := ⟨true, .is .page, .any, .any, .any, .jump, 63, some 63, .bulk⟩
          y.inUse = ruleWrite.inUse ∧ some y.kind = ruleWrite.kind ∧ some y.mtype = ruleWrite.mtype
          ∧ some y.line = ruleWrite.line ∧ some y.power = ruleWrite.power ∧ some y.action = ruleWrite.action
          ∧ y.jump.val = ruleWrite.jump ∧ y.missNext.map Fin.val = ruleWrite.missNext ∧ some y.cls = ruleWrite.cls))
    ∧ (some (Match.is (MsgType.undefined 3)) = some (.is (.undefined 3)) ∧ 64 ≤ (64 : Nat)
       ∧ 64 < (head 2 63).index.toNat + [ruleWrite, ruleWrite].length) := by
  decide +kernel

theorem witness_DispatchTableWrites :
    cold.meas.lock = none ∧ cold.host.queue.length + 2 ≤ 48 ∧ cold.inReset = false ∧ cold.host.link = []
    ∧ cold.host.input = none ∧ cold.disp.write = none
    ∧ ((head 1 5).target.toNat = 1 ∧ [EntryWrite.mk (some 63) (some .pass)] ≠ []
       ∧ ¬ 6 < (head 1 5).index.toNat + [EntryWrite.mk (some 63) (some .pass)].length
       ∧ ¬ 64 ≤ 63 ∧ ¬ (head 1 5).index.toNat + 0 < 4 ∧ some Action.pass ∈ [some Action.track, some .pass, some .drop]
       ∧ [EntryRec.mk (some 63) .pass].length = [EntryWrite.mk (some 63) (some .pass)].length
       ∧ (some (63 : Fin 64)).map Fin.val = some 63)
    ∧ ((head 1 3).index.toNat + 0 < 4 ∧ some Action.pass ∉ [some Action.handle, some .deliver, some .both, some .drop]
       ∧ 6 < (head 1 6).index.toNat + [EntryWrite.mk none (some .drop)].length ∧ 64 ≤ 64)
    ∧ (walkedDown (signal 1 {})).modem.intake ≠ []
    ∧ (cold.onDisp fun t => { t with write := some ⟨7, .rules 63 [.unused], true⟩ }).disp.write
      = some ⟨(head 2 63).tag, .rules (head 2 63).index.toNat [.unused], true⟩
    ∧ (cold.onDisp fun t => { t with write := some ⟨7, .entries 5 [⟨none, .drop⟩], true⟩ }).disp.write
      = some ⟨(head 1 5).tag, .entries (head 1 5).index.toNat [⟨none, .drop⟩], true⟩
    ∧ (let d := ({ cold with disp := dropping } : Device).onHost fun h => { h with input := some (signal 2 {}) }
       d.host.input = some (signal 2 {}) ∧ d.disp.write = none ∧ d.disp.walking = none ∧ d.modem.intake = []
       ∧ d.meas.lock = none ∧ d.host.link = [] ∧ walk d.disp .up d.sleep.power (signal 2 {}) = .rule .drop .normal) := by
  decide +kernel

/-- A write while no walk is in progress, one that meets a walk that has begun as it arrives, and one during a walk. -/
theorem witness_DispatchTableWrites_walks :
    (¬ (cold.disp.walking ≠ none ∨ false = true ∧ cold.modem.intake ≠ [])
       ∧ ¬ (cold.disp.walking ≠ none ∨ true = true ∧ cold.modem.intake ≠ []))
    ∧ ((walkedDown (signal 1 {})).disp.walking ≠ none ∨ true = true ∧ (walkedDown (signal 1 {})).modem.intake ≠ [])
    ∧ (let d := (walkedDown (signal 1 {})).onModem fun m => { m with pausing := some 40 }
       d.modem.intake = signal 1 {} :: [] ∧ d.modem.pausing ≠ none ∧ ([] : List LinkFrame).length ≤ d.modem.params.pauseOff)
    ∧ (let d := walkingOn (signal 1 {}) .asleep cold
       d.disp.walking ≠ none ∧ d.host.input = none ∧ d.disp.write = none ∧ d.host.link = [] ∧ d.meas.lock = none) := by
  decide +kernel

/-! #### Transmission and the Host-bound Queue -/

theorem witness_ModemLinkTakesLanesInOrder :
    cold.inReset = false
    ∧ (cold.onModem fun m => { m with voiceLane := [laneFrame] }).modem.voiceLane = [laneFrame]
    ∧ (let d := cold.onModem fun m => { m with orderLane := [laneFrame] }
       d.modem.voiceLane = [] ∧ d.modem.orderLane = [laneFrame])
    ∧ (let d := cold.onModem fun m => { m with deviceLane := [laneFrame] }
       d.modem.voiceLane = [] ∧ d.modem.orderLane = [] ∧ d.modem.deviceLane = [laneFrame])
    ∧ (let d := inState .a .moving (cold.onModem fun m => { m with hostLane := [laneFrame, { laneFrame with line := 2 }] })
       d.modem.voiceLane = [] ∧ d.modem.orderLane = [] ∧ d.modem.deviceLane = []
       ∧ d.modem.hostLane = [laneFrame] ++ { laneFrame with line := 2 } :: [] ∧ mayLeave d laneFrame = false
       ∧ mayLeave d { laneFrame with line := 2 } = true)
    ∧ (let f : ModemFrame := ⟨1, 0, 2, .forwarded { signal 1 {} with kind := .voice, tag := 77 }⟩
       (cold.onModem fun m => { m with voiceLane := [f] }).modem.voiceLane = [f]) := by
  decide +kernel

/-- Line A with a full Hold, a PAGE-ANSWER among it, and the Host lane full. -/
def holdsBehind (s : LineState) : Device :=
  (((serving s).onLine .a fun r => { r with hold := [laneFrame, ⟨1, 0, 255, .pageAnswer 5 .call ⟨512, 17⟩ 3⟩, laneFrame] }).onModem
    fun m => { m with hostLane := List.replicate 8 laneFrame })

theorem witness_ModemLinkTakesLanesInOrder_holds :
    (∀ s ∈ [LineState.connected, .stopping, .camped, .moving], (holdsBehind s).Bounded)
    ∧ (∀ s ∈ [LineState.connected, .stopping, .camped],
      let d := holding 3 .active 1 none (holdsBehind s)
      d.modem.voiceLane = [] ∧ d.modem.orderLane = [] ∧ d.modem.deviceLane = []
      ∧ d.modem.hostLane = [] ++ laneFrame :: List.replicate 7 laneFrame ∧ mayLeave d laneFrame = true ∧ d.lineState .a = s
      ∧ slotState d (slotOf .access .a) = .active) := by
  refine ⟨fun s hs => ⟨by decide +revert, by decide +revert, by decide +revert, by decide +revert, by decide +revert,
    by decide +revert, by decide +revert, fun l => by
      cases l <;> (unfold Device.lineBounded; decide +revert)⟩, by decide +kernel⟩

theorem witness_HostLinkSendsAndEnds :
    cold.inReset = false ∧ cold.host.sending = none
    ∧ (cold.onHost fun h => { h with voice := [queued] }).host.voice = [queued]
    ∧ (let d := cold.onHost fun h => { h with queue := [queued] }
       d.host.voice = [] ∧ d.host.queue = [queued] ∧ d.host.pauseTimer = none ∧ d.sleep.power = .awake
       ∧ d.sleep.settings.idleDelay ≠ 0 ∧ d.text.order = [])
    ∧ (let d := (power .asleep).onHost fun h => { h with queue := [queued] }
       d.inReset = false ∧ d.host.voice = [] ∧ d.sleep.power = .asleep)
    ∧ (cold.onHost fun h => { h with sending := some ⟨queued, 0, 0⟩ }).host.sending = some ⟨queued, 0, 0⟩
    ∧ queued.isSleepEnterReply = false
    ∧ (let x : SentHost := ⟨replyFrame 7 9 .done, 0, 0⟩
       let d := (cold.onHost fun h => { h with sending := some x }).onSleep fun s => { s with entry := .sending }
       d.host.sending = some x ∧ x.frame.isSleepEnterReply = true ∧ d.sleep.entry = .sending ∧ d.host.queue = []) := by
  decide +kernel

/-- The part with a given Host-bound Queue. -/
def withQueue (q : List HostFrame) : Device := cold.onHost fun h => { h with queue := q }

/-- A frame of each class. -/
def bulk : HostFrame := { queued with cls := .bulk }
def urgent : HostFrame := { queued with cls := .urgent }

/-- A full queue with and without a Bulk frame, with one Normal frame, and of Urgent frames alone. -/
theorem witness_HostQueueOrder :
    (let d := cold.onCond .f2 fun r => { r with on := true, action := .quiet }
     bulk.cls = .bulk ∧ (d.cond .f2).on = true ∧ (d.cond .f2).action = .quiet)
    ∧ (queued.cls ≠ .bulk ∧ (withQueue (List.replicate 47 urgent)).host.queue.length < 48)
    ∧ 48 ≤ (withQueue (List.replicate 48 urgent)).host.queue.length
    ∧ ((withQueue (List.replicate 20 urgent ++ bulk :: List.replicate 27 queued)).host.queue
        = List.replicate 20 urgent ++ bulk :: List.replicate 27 queued
      ∧ 48 ≤ (List.replicate 20 urgent ++ bulk :: List.replicate 27 queued).length
      ∧ ∀ x ∈ List.replicate 20 urgent, x.cls ≠ .bulk)
    ∧ (let q := List.replicate 46 urgent ++ queued :: [urgent]
       (withQueue q).host.queue = q ∧ 48 ≤ q.length ∧ (∀ x ∈ q, x.cls ≠ .bulk) ∧ (∀ x ∈ List.replicate 46 urgent, x.cls ≠ .normal)
       ∧ urgent.cls = .urgent ∧ queued.cls = .normal
       ∧ (((withQueue q).onCond .f2 fun r => { r with mask := true }).cond .f2).mask = true
       ∧ ((withQueue q).cond .f2).on = false ∧ ((withQueue q).cond .f2).mask = false
       ∧ (∀ x ∈ List.replicate 46 urgent ++ [urgent] ++ [urgent], x.cls ≠ .normal))
    ∧ (let q := List.replicate 20 urgent ++ queued :: queued :: List.replicate 26 urgent
       48 ≤ q.length ∧ (∀ x ∈ q, x.cls ≠ .bulk) ∧ urgent.isReply = false
       ∧ List.replicate 20 urgent ++ queued :: List.replicate 26 urgent ++ [urgent]
         = List.replicate 20 urgent ++ queued :: (List.replicate 26 urgent ++ [urgent])
       ∧ queued.cls = .normal ∧ (∀ x ∈ List.replicate 20 urgent, x.cls ≠ .normal))
    ∧ (let q := List.replicate 48 urgent
       (∀ x ∈ q, x.cls ≠ .bulk) ∧ (∀ x ∈ q, x.cls ≠ .normal) ∧ (∀ x ∈ q, x.cls = .urgent)
       ∧ (((withQueue q).onCond .f2 fun r => { r with on := true }).cond .f2).on = true
       ∧ ((withQueue q).cond .f2).on = false ∧ ((withQueue q).cond .f2).mask = false) := by
  decide +kernel

/-! #### The radio -/

/-- A move of Line A. -/
def moving (phase : MovePhase) (deadline : Nat) : MoveRec :=
  ⟨.reselect, .ranking, phase, ⟨600, 8⟩, 5, 2, ⟨512, 17⟩, deadline, false, none, 0, none, false⟩

/-- A holder whose class is OnRequest. -/
def holdingOnRequest (slot : Fin 13) (phase : HoldPhase) (released : Bool) (d : Device) : Device :=
  d.onArb fun a => { a with holder := some ⟨slot, phase, .onRequest, 9, 4, some 10, 0, released⟩ }

theorem witness_ReadyOpensTheWindow :
    cold.inReset = false
    ∧ (let d := holding 4 .granted 0 (some 10) cold
       d.arb.holder = some ⟨4, .granted, .whenDone, 9, 4, some 10, 0, false⟩ ∧ slotClass 4 ≠ .move)
    ∧ (let d := holdingOnRequest 1 .granted true cold
       d.arb.holder = some ⟨1, .granted, .onRequest, 9, 4, some 10, 0, true⟩ ∧ slotClass 1 ≠ .move)
    ∧ (let d := holdingOnRequest 1 .granted false (cold.onSlot 0 fun s => { s with want := .pending, pended := true })
       d.arb.holder = some ⟨1, .granted, .onRequest, 9, 4, some 10, 0, false⟩
       ∧ (d.slot 0).want = .pending ∧ (d.slot 0).pended = true ∧ classRelease d 0 = .whenDone ∧ level d 1 ≤ level d 0
       ∧ d.arb.mode ≠ .topOnly)
    ∧ (let m := { moving .tuning 20 with barredAtReady := true }
       let d := holding 0 .granted 0 (some 10) (cold.onMove .a fun x => { x with record := some m })
       d.arb.holder = some ⟨0, .granted, .whenDone, 9, 4, some 10, 0, false⟩ ∧ slotClass 0 = .move
       ∧ d.moveRec (slotCountLine 0) = some m ∧ m.barredAtReady = true)
    ∧ (let d := holding 4 .yielding 0 none cold
       d.arb.holder = some ⟨4, .yielding, .whenDone, 9, 4, none, 0, false⟩ ∧ HoldPhase.yielding ≠ .granted)
    ∧ cold.arb.holder = none ∧ (9 : Byte) ≠ 8 := by
  decide +kernel

theorem cold_noneWaiting : NoneWaiting cold := by
  unfold NoneWaiting
  decide +kernel

/-- TRAFFIC of Line B holds the radio, and another slot waits. -/
def behind (i : Fin 13) (d : Device) : Device := waiting i (holding 7 .active 3 none d)

/-- The part once that window is over, before the arbitration. -/
def windowOver (d : Device) : Device :=
  { d with
    modem := { d.modem with lastCount := some 0 }
    arb := { d.arb with
      holder := none
      slots := Tab.upd d.arb.slots 7 fun x =>
        { x with want := .idle, repeated := false, served := x.served || (slotRec d 7).fair } } }

/-- Line A with a reselection that waits for its grant. -/
def reselectWaits (phase : MovePhase) : Device :=
  (serving .camped).onMove .a fun m => { m with record := some (moving phase 100) }

theorem witness_DoneEndsTheWindow :
    (let d := holding 4 .active 3 none cold
     d.inReset = false ∧ d.arb.holder = some ⟨4, .active, .whenDone, 9, 4, none, 3, false⟩ ∧ slotClass 4 = .measure
     ∧ (d.slot 4).repeated = false ∧ (d.slot 4).standing = false ∧ NoneWaiting d)
    ∧ (let d := holding 12 .active 3 none (cold.onArb fun a => { a with borrow := some ⟨3, 10, [1]⟩ })
       d.arb.holder = some ⟨12, .active, .whenDone, 9, 4, none, 3, false⟩ ∧ slotClass 12 = .borrow
       ∧ (d.slot 12).repeated = false ∧ (d.slot 12).standing = false ∧ d.arb.borrow = some ⟨3, 10, [1]⟩
       ∧ d.host.queue.length + 2 ≤ 48 ∧ NoneWaiting d)
    ∧ cold.arb.holder = none :=
  ⟨⟨rfl, rfl, rfl, rfl, rfl, cold_noneWaiting⟩, ⟨rfl, rfl, rfl, rfl, rfl, by decide, cold_noneWaiting⟩, rfl⟩

/-- A frame in the Hold of Line A. -/
def heldFrame (d : Device) : Device := d.onLine .a fun r => { r with hold := [⟨1, 0, 0, .forwarded (signal 1 {})⟩] }

theorem witness_DoneEndsTheWindow_owners :
    (∀ i, NoneWaiting (holding i .active 3 none cold))
    ∧ HoldPhase.active ≠ .granted ∧ slotClass 5 = .search ∧ slotClass 3 = .access ∧ slotClass 2 = .paging
    ∧ (let d := holding 5 .active 3 none (inState .a .searching cold)
       (d.line (slotCountLine 5)).staleSearch = false ∧ d.lineState (slotCountLine 5) = .searching)
    ∧ (let d := holding 3 .active 3 none (serving .camped)
       (d.line (slotCountLine 3)).hold = [] ∧ ((heldFrame d).line (slotCountLine 3)).hold ≠ []
       ∧ (heldFrame d).lineState (slotCountLine 3) = .camped ∧ d.arb.mode ≠ .topOnly)
    ∧ (let d := holding 2 .active 3 none ((serving .camped).onPaging .a fun p =>
         { p with state := .watching, watch := some ⟨2, 3, true⟩ })
       (d.page (slotCountLine 2)).watch = some ⟨2, 3, true⟩ ∧ (d.measLine .a).sched ≠ .cycleAligned ∧ d.reselecting .a = false
       ∧ ((d.onMeasLine .a fun m => { m with sched := .cycleAligned }).measLine .a).sched = .cycleAligned
       ∧ d.lineState .a = .camped ∧ (d.page .a).state = .watching ∧ measSet .a d = [2]) :=
  ⟨fun _ => cold_noneWaiting, by decide +kernel⟩

/-- R136: from position 5 the list goes on at 9 and wraps, and the position becomes that of its last entry. -/
theorem test_measure_position :
    let d := behind 4 (((listed 9 ⟨780, 3⟩ (listed 5 ⟨600, 8⟩ (serving .camped))).onLine .a fun r =>
      { r with params := { r.params with cellsW := 2 } }).onMeasLine .a fun m => { m with pos := 5 })
    let t := after (.done 0 (some 9)) d
    t.modem.orderLane = [⟨1, 0, 0, .order ⟨.measure, 0, 4, .cells [⟨780, 3⟩, ⟨512, 17⟩]⟩⟩] ∧ (t.measLine .a).pos = 2
    ∧ (t.measLine .a).prevPos = 5 ∧ ((after .grantTimeout (t.onArb fun a =>
      { a with holder := a.holder.map fun h => { h with grantTimer := some 0 } })).measLine .a).pos = 5 := by
  decide +kernel

theorem witness_DoneEndsTheWindow_chosen :
    (∀ d ∈ [behind 1 (serving .connected), behind 3 (serving .camped), behind 5 (inState .a .searching cold),
        behind 12 (cold.onArb fun a => { a with borrow := some ⟨3, 10, [1]⟩ }),
        behind 2 ((serving .camped).onPaging .a fun p => { p with watch := some ⟨2, 3, false⟩ }),
        behind 0 (reselectWaits .waitingGrant), behind 4 (serving .camped)],
      d.inReset = false ∧ d.arb.holder = some ⟨7, .active, .whenDone, 9, 4, none, 3, false⟩ ∧ (d.slot 7).repeated = false
      ∧ (d.slot 7).standing = false ∧ ∀ j, (d.slot j).want ≠ .deferred)
    ∧ slotClass 7 = .traffic ∧ chooseSlot (windowOver (holding 7 .active 3 none cold)) = none
    ∧ (let d := behind 1 (serving .connected)
       chooseSlot (windowOver d) = some 1 ∧ slotClass 1 = .traffic ∧ d.lineState (slotCountLine 1) = .connected)
    ∧ (let d := behind 3 (serving .camped)
       chooseSlot (windowOver d) = some 3 ∧ slotClass 3 = .access ∧ d.lineState (slotCountLine 3) = .camped)
    ∧ (let d := behind 5 (inState .a .searching cold)
       chooseSlot (windowOver d) = some 5 ∧ slotClass 5 = .search ∧ d.lineState (slotCountLine 5) = .searching)
    ∧ (let d := behind 12 (cold.onArb fun a => { a with borrow := some ⟨3, 10, [1]⟩ })
       chooseSlot (windowOver d) = some 12 ∧ slotClass 12 = .borrow ∧ d.arb.borrow = some ⟨3, 10, [1]⟩)
    ∧ (let d := behind 2 ((serving .camped).onPaging .a fun p => { p with watch := some ⟨2, 3, false⟩ })
       chooseSlot (windowOver d) = some 2 ∧ slotClass 2 = .paging ∧ (d.page (slotCountLine 2)).watch = some ⟨2, 3, false⟩)
    ∧ (let d := behind 0 (reselectWaits .waitingGrant)
       chooseSlot (windowOver d) = some 0 ∧ slotClass 0 = .move ∧ (d.moveRec (slotCountLine 0)).map MoveRec.phase = some .waitingGrant)
    ∧ (let d := behind 4 (serving .camped)
       chooseSlot (windowOver d) = some 4 ∧ slotClass 4 = .measure ∧ d.lineState (slotCountLine 4) = .camped
       ∧ d.reselecting (slotCountLine 4) = false ∧ measSet .a d = [2] ∧ (d.params .a).cellsW = 4) := by
  decide +kernel

/-- Both lines Camped on one cell. -/
def bothCamped : Device :=
  (((serving .camped).onEntry 2 fun e => { e with own := ⟨true, true⟩, servingFor := ⟨true, true⟩ }).onLine .b fun r =>
    { r with state := .camped, serving := some 2, cycle := some 128, qhyst := some 8 })

theorem witness_SyncAndRestart_anyHolder :
    (let d := holding 1 .active 3 none (serving .connected)
     d.inReset = false ∧ d.lineState .a = .connected ∧ d.servingCell .a = some ⟨512, 17⟩ ∧ (d.line .a).radioLink = .stopped
     ∧ d.arb.holder = some ⟨1, .active, .whenDone, 9, 4, none, 3, false⟩ ∧ slotClass 1 ≠ .move)
    ∧ (let d := holding 6 .active 3 none (serving .connected)
       d.arb.holder = some ⟨6, .active, .whenDone, 9, 4, none, 3, false⟩ ∧ slotClass 6 = .move)
    ∧ (let d := bothCamped
       d.inReset = false ∧ ∀ l ∈ [LineId.a, .b],
         d.lineState l = .camped ∧ d.servingCell l = some ⟨512, 17⟩ ∧ d.moveRec l = none) := by
  decide +kernel

/-- Log entry 46: a SYNC-LOST for the cell of two Camped lines counts an event of F4 for each, Line B's last. -/
theorem test_sync_lost_both :
    ((after (.syncLost 5 (some ⟨512, 17⟩)) bothCamped).cond .f4).events = 2
    ∧ ((after (.syncLost 5 (some ⟨512, 17⟩)) bothCamped).cond .f4).last = some (2, 0) := by
  decide +kernel

theorem witness_SyncAndRestart :
    (let d := serving .connected
     d.inReset = false ∧ d.lineState .a = .connected ∧ d.servingCell .a = some ⟨512, 17⟩
     ∧ d.servingCell LineId.a.other ≠ some ⟨512, 17⟩ ∧ d.arb.holder = none ∧ (d.line .a).radioLink = .stopped
     ∧ (((serving .connected).onLine .a fun r => { r with radioLink := .running 80 }).line .a).radioLink = .running 80)
    ∧ (∀ d ∈ [serving .camped, reselectWaits .waitingGrant, reselectWaits .tuning],
       d.inReset = false ∧ d.lineState .a = .camped ∧ d.servingCell .a = some ⟨512, 17⟩
       ∧ d.servingCell LineId.a.other ≠ some ⟨512, 17⟩ ∧ d.arb.holder = none)
    ∧ (serving .camped).moveRec .a = none
    ∧ (∀ p ∈ [MovePhase.waitingGrant, .tuning], ∃ m, (reselectWaits p).moveRec .a = some m ∧ m.kind = .reselect ∧ m.phase = p)
    ∧ (∀ x ∈ [FaultAction.report, .search, .stop],
       (((serving .camped).onCond .f4 fun r => { r with action := x }).cond .f4).action = x)
    ∧ (∀ x ∈ [FaultAction.report, .stopLines], ((cold.onCond .f6 fun r => { r with action := x }).cond .f6).action = x)
    ∧ (∀ s ∈ [LineState.off, .searching, .camped, .connected, .moving, .lost, .stopping], (inState .b s cold).lineState .b = s)
    ∧ (slotState (holding 5 .active 1 none cold) (slotOf .search .a)).holds = true
    ∧ (let d := inState .a .searching (listed 3 ⟨512, 17⟩ cold)
       (d.entry 3).own.get .a = true ∧ (d.entry 3).state = .listed)
    ∧ (let d := (serving .moving).onMove .a fun m =>
         { m with record := some { moving .tuning 100 with kind := .handover } }
       (d.moveRec .a).map MoveRec.kind = some .handover) := by
  refine ⟨by decide +kernel, by decide +kernel, by decide +kernel, ?_, by decide +kernel, by decide +kernel, by decide +kernel,
    by decide +kernel, by decide +kernel, by decide +kernel⟩
  intro p _
  exact ⟨_, rfl, rfl, rfl⟩

/-- Line A Camped and Watching, at the boundary before its request frame, with another slot's window open. -/
def watching : Device :=
  let d := (serving .camped).onPaging .a fun p =>
    { p with state := .watching, primary := some 0
             identities := p.identities.upd 0 fun _ => ⟨5, .permanent, true⟩ }
  holding 4 .active 1 none (d.onLine .a fun r => { r with frame := 2 })

theorem witness_BoundaryAndOccasions :
    (watching.arb.holder = some ⟨4, .active, .whenDone, 9, 4, none, 1, false⟩ ∧ (4 : Fin 13) ≠ slotOf .paging .a
      ∧ (watching.page .a).state = .watching ∧ (watching.page .a).watch = none ∧ requestFrame .a watching = some 3
      ∧ (watching.line .a).cycle = some 128 ∧ ((watching.line .a).frame + 1).toNat % 128 = 3)
    ∧ ((watching.onPaging .a fun p => { p with watch := some ⟨0, 1, false⟩ }).page .a).watch ≠ none
    ∧ (serving .camped).arb.holder = none ∧ ((serving .camped).page .a).state ≠ .watching
    ∧ (let d := waiting 2 (holding 4 .active 1 none (cold.onPaging .a fun p => { p with watch := some ⟨0, 0, false⟩ }))
       d.inReset = false ∧ (d.page .a).watch = some ⟨0, 0, false⟩
       ∧ d.arb.holder = some ⟨4, .active, .whenDone, 9, 4, none, 1, false⟩ ∧ (4 : Fin 13) ≠ slotOf .paging .a
       ∧ (slotState d (slotOf .paging .a)).waits = true) := by
  decide +kernel

theorem witness_WatchEndsTheWindow :
    (∀ i, NoneWaiting (holding i .granted 0 (some 0) cold)) ∧ cold.inReset = false
    ∧ (∀ i, (cold.slot i).repeated = false ∧ (cold.slot i).standing = false)
    ∧ (∀ i ∈ [(10 : Fin 13), 12, 5, 2, 3],
      (holding i .granted 0 (some 0) cold).arb.holder = some ⟨i, .granted, .whenDone, 9, 4, some 0, 0, false⟩
      ∧ (holding i .active 6 none cold).arb.holder = some ⟨i, .active, .whenDone, 9, 4, none, 6, false⟩
      ∧ (holding i .yielding 2 none cold).arb.holder = some ⟨i, .yielding, .whenDone, 9, 4, none, 2, false⟩)
    ∧ 4 + 2 ≤ 6 ∧ slotClass 10 = .measure ∧ slotClass 12 = .borrow ∧ slotClass 5 = .search ∧ slotClass 2 = .paging
    ∧ slotClass 3 = .access :=
  ⟨fun _ => cold_noneWaiting, by decide +kernel⟩

theorem witness_WatchEndsTheWindow_owners :
    (let d := holding 12 .granted 0 (some 0) (cold.onArb fun a => { a with borrow := some ⟨3, 10, [1]⟩ })
     d.arb.borrow = some ⟨3, 10, [1]⟩ ∧ d.host.queue.length + 4 ≤ 48)
    ∧ (let d := holding 5 .granted 0 (some 0) (inState .a .searching cold)
       (d.line (slotCountLine 5)).staleSearch = false ∧ d.lineState (slotCountLine 5) = .searching
       ∧ d.host.queue.length + 4 ≤ 48 ∧ (d.line .a).noServiceSent = false ∧ (d.line .a).serving = none
       ∧ ((d.onLine .a fun r => { r with staleSearch := true }).line (slotCountLine 5)).staleSearch = true)
    ∧ (let d := holding 2 .granted 0 (some 0) (cold.onPaging .a fun p => { p with watch := some ⟨2, 3, true⟩ })
       (d.page (slotCountLine 2)).watch = some ⟨2, 3, true⟩)
    ∧ (let d := holding 3 .granted 0 (some 0) (serving .camped)
       (d.line (slotCountLine 3)).hold = [] ∧ ((heldFrame d).line (slotCountLine 3)).hold ≠ []
       ∧ (heldFrame d).lineState (slotCountLine 3) = .camped ∧ d.arb.mode ≠ .topOnly) := by
  decide +kernel

/-- TRAFFIC of Line A (level 1, OnRequest) behind PAGING of Line B (level 2, WhenDone), and TRAFFIC alone, in each mode. -/
theorem witness_ArbitrationChoosesByTheMode :
    chooseSlot cold = none ∧ (∀ i, (cold.slot i).want ≠ .pending)
    ∧ (let d := waiting 1 (cold.onArb fun a => { a with mode := .rotating })
       chooseSlot d = some 1 ∧ classRelease d 1 = .onRequest ∧ (d.slot 1).want = .pending)
    ∧ (∀ m ∈ [ArbMode.fixed, .rotating, .split],
       let d := waiting 11 (waiting 2 (waiting 1 (cold.onArb fun a => { a with mode := m, pointer := 0 })))
       d.arb.mode = m ∧ ∃ i, chooseSlot d = some i ∧ i ≠ 1)
    ∧ (let d := waiting 6 (waiting 0 (cold.onArb fun a => { a with mode := .topOnly }))
       level d 6 = 3 ∧ chooseSlot d = some 0) := by
  decide +kernel

/-- A served slot of a fair class. -/
def served (slot : Fin 13) (d : Device) : Device := d.onSlot slot fun s => { s with served := true }

theorem witness_FairnessAndYield :
    (let d := holding 7 .active 1 none (served 4 (waiting 10 cold))
     d.arb.holder = some ⟨7, .active, .whenDone, 9, 4, none, 1, false⟩ ∧ slotState d 4 = .idle ∧ (slotRec d 4).fair = true
     ∧ (d.slot 4).served = true ∧ (d.slot 10).want = .pending ∧ level d 10 = level d 4)
    ∧ (let d := holdingOnRequest 1 .active false cold
       d.arb.holder = some ⟨1, .active, .onRequest, 9, 4, some 10, 0, false⟩ ∧ slotState d 2 = .idle
       ∧ (d.slot 2).served = false ∧ classRelease d 2 = .whenDone ∧ level d 1 ≤ level d 2 ∧ d.arb.mode ≠ .topOnly)
    ∧ (let d := holding 7 .granted 0 (some 3) cold
       slotState d 2 = .idle ∧ d.arb.holder = some ⟨7, .granted, .whenDone, 9, 4, some 3, 0, false⟩)
    ∧ slotState (waiting 4 cold) 4 = .pending
    ∧ slotState (cold.onSlot 4 fun s => { s with want := .deferred }) 4 = .deferred
    ∧ (slotState (holding 4 .active 1 none cold) 4).holds = true
    ∧ (let d := waiting 4 (cold.onSlot 10 fun s => { s with want := .deferred })
       d.arb.holder = none ∧ (d.slot 4).want = .pending ∧ (d.slot 10).want = .deferred ∧ level d 10 = level d 4) := by
  decide +kernel

theorem witness_ReleaseAndEndOfHold :
    (let d := holding 7 .active 1 none cold
     d.arb.holder = some ⟨7, .active, .whenDone, 9, 4, none, 1, false⟩ ∧ slotState d 4 = .idle
     ∧ slotState (waiting 4 d) 4 = .pending
     ∧ slotState (d.onSlot 4 fun s => { s with want := .deferred }) 4 = .deferred)
    ∧ (∀ p ∈ [HoldPhase.granted, .active, .yielding],
       (holdingOnRequest 1 p false cold).arb.holder = some ⟨1, p, .onRequest, 9, 4, some 10, 0, false⟩)
    ∧ (let d := holding 4 .active 1 none (cold.onSlot 4 fun s => { s with repeated := true })
       d.arb.holder = some ⟨4, .active, .whenDone, 9, 4, none, 1, false⟩
       ∧ ((d.slot 4).standing || (d.slot 4).repeated) = true
       ∧ ¬ (∃ k, k ≠ 4 ∧ (d.slot k).want = .pending ∧ level d k = level d 4)
       ∧ (slotRec d 4).fair = true ∧ (((d.slot 4).served || (slotRec d 4).fair && HoldPhase.active ≠ .granted) = true)
       ∧ ((waiting 10 d).slot 10).want = .pending ∧ level (waiting 10 d) 10 = level (waiting 10 d) 4)
    ∧ (let d := holding 4 .active 1 none cold
       ((d.slot 4).standing || (d.slot 4).repeated) = false) := by
  decide +kernel

/-! #### Lines -/

theorem inState_commandable (l : LineId) (s : LineState) : Commandable (inState l s cold) :=
  ⟨⟨rfl, rfl, rfl, rfl⟩, rfl, (by decide : (0 : Nat) + 2 ≤ 48)⟩

theorem witness_LineStartAndStop :
    Commandable cold ∧ (head 1 0).index = 0 ∧ targetLine (head 1 0).target = some .a ∧ targetLine (head 2 0).target = some .b
    ∧ cold.lineState .a = .off ∧ cold.sleep.settings.idleDelay ≠ 0
    ∧ ((cold.onSleep fun s => { s with settings := { s.settings with idleDelay := 0 } }).host.queue.length + 3 ≤ 48)
    ∧ targetLine (head 0 0).target = none ∧ targetLine (head 3 0).target = none
    ∧ (∀ s, Commandable (inState .b s cold) ∧ (inState .b s cold).lineState .b = s)
    ∧ (let d := inCall 2 (record .active 9)
       Commandable d ∧ d.lineState .a = .connected ∧ d.call 2 = some (record .active 9) ∧ (record .active 9).line = .a
       ∧ (record .active 9).state ≠ .clearing ∧ (d.entry 2).own.get LineId.a.other = false) :=
  ⟨cold_commandable, rfl, rfl, rfl, rfl, by decide, by decide, rfl, rfl, fun s => ⟨inState_commandable .b s, rfl⟩,
    ⟨⟨⟨rfl, rfl, rfl, rfl⟩, rfl, by decide⟩, by decide +kernel⟩⟩

theorem witness_LineStartAndStop_search :
    (let d := threeListed
     Commandable d ∧ d.lineState .a = .off ∧ (slotState d (slotOf .search .a)).waits = false ∧ d.arb.holder = none
     ∧ NoneWaiting d ∧ d.arb.mode ≠ .topOnly
     ∧ ((indexes 24).filter fun k => (d.entry k).own.get .a && ((d.entry k).state == .listed || (d.entry k).state == .measured
        || (d.entry k).state == .stale)) = [2, 5, 9])
    ∧ (let d := threeListed.onArb fun a => { a with mode := .topOnly }
       d.arb.mode = .topOnly ∧ level d (slotOf .search .a) ≠ 3)
    ∧ (∀ i ∈ [(4 : Fin 13), 5], (holding i .active 1 none threeListed).arb.holder
      = some ⟨i, .active, .whenDone, 9, 4, none, 1, false⟩)
    ∧ ((indexes 24).filter fun k => (cold.entry k).own.get .a && ((cold.entry k).state == .listed
      || (cold.entry k).state == .measured || (cold.entry k).state == .stale)) = [] :=
  ⟨⟨⟨⟨rfl, rfl, rfl, rfl⟩, rfl, by decide⟩, rfl, rfl, rfl, cold_noneWaiting, by decide +kernel, by decide +kernel⟩,
    by decide +kernel, by decide +kernel, by decide +kernel⟩

/-- Line A in a state, with a Collecting record that has one of its two parts. -/
def collecting (s : LineState) : Device :=
  (serving s).onText fun t =>
    { t with
      pool := t.pool.upd 0 fun _ => some ⟨3, [65]⟩
      recs := t.recs.upd 3 fun _ => some ⟨.collecting, .a, 7, 2, [(1, 0)], 5000, some 100⟩
      order := [3] }

theorem collecting_poolFits (s : LineState) : (collecting s).PoolFits := by
  have held : ∀ r, (collecting s).heldSlots r = if r = 3 then [(1, 0)] else [] :=
    (by decide +kernel : ∀ r, (collecting .off).heldSlots r = if r = 3 then [(1, 0)] else [])
  have pool : ∀ i, (collecting s).text.pool.get i = if i = 0 then some ⟨3, [65]⟩ else none :=
    (by decide +kernel : ∀ i, (collecting .off).text.pool.get i = if i = 0 then some ⟨3, [65]⟩ else none)
  have recs : ∀ r, (collecting s).text? r = if r = 3 then some ⟨.collecting, .a, 7, 2, [(1, 0)], 5000, some 100⟩ else none :=
    (by decide +kernel : ∀ r, (collecting .off).text? r
      = if r = 3 then some ⟨.collecting, .a, 7, 2, [(1, 0)], 5000, some 100⟩ else none)
  refine ⟨fun r i => ?_, fun r => ?_, (by decide +kernel : ((indexes 8).map fun r => ((collecting .off).heldSlots r).length).sum
      + (collecting .off).freeSlots.length = 48), ⟨List.nodup_singleton 3, fun r => ?_⟩, fun r u x y hr hu _ _ => ?_⟩
  · rw [held r, pool i]
    by_cases h : r = 3 <;> by_cases k : i = 0 <;> simp [h, k]
    exact fun e => h e.symm
  · rw [held r]
    by_cases h : r = 3 <;> simp [h]
  · rw [recs r]
    change r ∈ [3] ↔ _
    by_cases h : r = 3 <;> simp [h]
  · rw [recs r] at hr
    rw [recs u] at hu
    by_cases h : r = 3 <;> by_cases k : u = 3 <;> simp_all

theorem witness_LineStartAndStop_texts :
    ∀ s ∈ [LineState.connected, .camped, .searching, .lost],
      Commandable (collecting s) ∧ (collecting s).PoolFits ∧ (collecting s).host.queue.length + 16 ≤ 48
      ∧ (collecting s).lineState .a = s ∧ (collecting s).text.order = [3]
      ∧ ((collecting s).text? 3).map TextRec.state = some .collecting :=
  fun s _ => ⟨⟨⟨rfl, rfl, rfl, rfl⟩, rfl, (by decide : (0 : Nat) + 2 ≤ 48)⟩, collecting_poolFits s,
    (by decide : (0 : Nat) + 16 ≤ 48), rfl, rfl, rfl⟩

/-- R106: a stop delivers the Collecting record, its cause Line Stopped, ahead of the Off notice. -/
theorem test_stop_delivers_partial :
    ((after (.lineStop (head 1 0) (.fits ())) (collecting .camped)).host.queue.map HostFrame.payload).drop 1
      = [.notice ⟨7, .text .partialText .lineStopped 2 1 [2] 5 [65]⟩, .notice ⟨0, .lineState false (.off 0)⟩] := by
  decide +kernel

theorem witness_RadioLinkExpiryLosesTheLine :
    let d := ((serving .connected).onLine .a fun r => { r with radioLink := .running 0 }).onCond .f4
      fun r => { r with action := .report }
    d.inReset = false ∧ d.lineState .a = .connected ∧ (d.line .a).radioLink = .running 0 ∧ d.moveRec .a = none
    ∧ (d.cond .f4).action = .report ∧ (d.line .a).deferredStop = false := by
  decide +kernel

/-- Line A with frames in its Hold. -/
def holdingFrames (n : Nat) (d : Device) : Device :=
  d.onLine .a fun r => { r with hold := List.replicate n ⟨1, 0, 0, .forwarded (signal 1 {})⟩ }

theorem witness_UplinkFollowsTheLineState :
    (let d := serving .connected
     d.lineState .a = .connected ∧ (d.line .a).hold = [] ∧ d.modem.hostLane.length < 8)
    ∧ (let d := inState .a .stopping cold
       d.lineState .a = .stopping ∧ (signal 1 { mtype := .clearDone }).fields.mtype = .clearDone
       ∧ (signal 1 { mtype := .callHold }).fields.mtype ≠ .callClear ∧ (signal 1 { mtype := .callHold }).fields.mtype ≠ .clearDone)
    ∧ (let d := holding 3 .active 1 none (serving .camped)
       d.lineState .a = .camped ∧ slotState d (slotOf .access .a) = .active ∧ (d.line .a).hold = [])
    ∧ (let d := holdingFrames 3 (serving .connected)
       (d.line .a).hold ≠ [] ∧ (d.line .a).hold.length < 4)
    ∧ 4 ≤ ((holdingFrames 4 (serving .connected)).line .a).hold.length
    ∧ (let d := holdingFrames 3 (inState .a .moving cold)
       d.lineState .a = .moving ∧ (d.line .a).hold.length < 4)
    ∧ (let d := holdingFrames 3 (serving .camped)
       d.lineState .a = .camped ∧ slotState d (slotOf .access .a) = .idle ∧ (d.line .a).hold.length < 4
       ∧ slotState (waiting 3 d) (slotOf .access .a) ≠ .idle)
    ∧ 4 ≤ ((holdingFrames 4 (inState .a .moving cold)).line .a).hold.length
    ∧ (∀ s ∈ [LineState.off, .searching, .lost], (inState .a s cold).lineState .a = s) := by
  decide +kernel

theorem witness_UplinkFollowsTheLineState_hold :
    ∀ x ∈ ((holdingFrames 4 cold).line .a).hold, ∃ y, x.payload = .forwarded y :=
  fun _ h => ⟨_, congrArg ModemFrame.payload (List.eq_of_mem_replicate h)⟩

/-- Line A Searching with one found cell. -/
def foundOne (x : FoundCell) : Device :=
  (listed 2 ⟨512, 17⟩ cold).onLine .a fun r => { r with state := .searching, found := [x] }

theorem witness_SearchEndsInCampedOrRetry :
    (let x : FoundCell := ⟨⟨512, 17⟩, some 2, true, 128, 8, 5, 0, none⟩
     (foundOne x).lineState .a = .searching ∧ ((foundOne x).line .a).found = [x] ∧ x.barred = true)
    ∧ (let x : FoundCell := ⟨⟨512, 17⟩, some 2, false, 128, 8, 5, 0, some (-380)⟩
       let y : FoundCell := ⟨⟨512, 40⟩, some 5, false, 64, 8, 5, 0, some (-380)⟩
       let z : FoundCell := ⟨⟨780, 3⟩, none, false, 64, 8, 5, 0, some (-300)⟩
       let d := (listed 5 ⟨512, 40⟩ (foundOne x)).onLine .a fun r => { r with found := [z, y, x] }
       d.lineState .a = .searching ∧ (d.line .a).found = [z, y] ++ x :: [] ∧ x.barred = false ∧ x.entry = some 2
       ∧ x.level = some (-380) ∧ (d.entry 2).cell = x.cell ∧ (d.entry 2).own.get .a = true ∧ (d.entry 2).state = .listed
       ∧ y.level = some (-380) ∧ (2 : Fin 24) < 5 ∧ z.entry = none ∧ (d.entry 5).cell = y.cell) := by
  decide +kernel

/-- R134: the schedule is cycle-aligned for a line that watches its occasions with a short cycle, and by intervals otherwise. -/
theorem witness_SearchEndsInCampedOrRetry_schedule :
    let d := foundOne ⟨⟨512, 17⟩, some 2, false, 128, 8, 5, 0, some (-380)⟩
    let e := d.onPaging .a fun p => { p with identities := p.identities.upd 0 fun _ => ⟨5, .permanent, true⟩ }
    d.reselecting .a = false ∧ e.reselecting .a = false ∧ ((searchEnd .a d).page .a).state = .off
    ∧ ((searchEnd .a e).page .a).state = .watching ∧ (e.params .a).idleMode = .mixed ∧ (e.params .a).mixedThreshold = 128
    ∧ ((searchEnd .a d).measLine .a).sched = .interval ∧ ((searchEnd .a e).measLine .a).sched = .cycleAligned
    ∧ ((searchEnd .a e).measLine .a).round = some [(2, false)] := by
  decide +kernel

/-- Line A Connected in a round of its serving entry and entry 5, which has a level. -/
def rounding : Device :=
  let d := (listed 5 ⟨600, 8⟩ (serving .connected)).onEntry 5 fun e =>
    { e with state := .measured, filter := some (-6080), level := some (-380) }
  (d.onEntry 2 fun e => { e with state := .measured, filter := some (-6400), level := some (-400) }).onMeasLine .a fun m =>
    { m with round := some [(2, false), (5, false)] }

/-- A CELL-INFO of Line A. -/
def infoFrame (c : Cell) (cycle : Nat) : LinkFrame :=
  signal 1 { mtype := .cellInfo, cell := some c, frameNo := some 9, barred := some true, cycle := some cycle, qhyst := some 8 }

theorem witness_CellInfoFollowsTheLineState :
    LineId.ofField (signal 0 {}).line = none ∧ (signal 1 {}).fields.cell = none
    ∧ (let f := infoFrame ⟨512, 17⟩ 64
       LineId.ofField f.line = some .a ∧ f.fields.cell = some ⟨512, 17⟩ ∧ f.fields.frameNo = some 9
       ∧ f.fields.barred = some true ∧ f.fields.cycle = some 64 ∧ f.fields.qhyst = some 8)
    ∧ (∀ s ∈ [LineState.off, .searching, .camped, .connected, .moving, .lost, .stopping], (inState .a s cold).lineState .a = s)
    ∧ (let d := holding (slotOf .search .a) .active 1 none (foundOne ⟨⟨512, 17⟩, some 2, true, 128, 8, 5, 0, none⟩)
       d.lineState .a = .searching ∧ slotState d (slotOf .search .a) = .active ∧ (∃ x ∈ (d.line .a).found, x.cell = ⟨512, 17⟩)
       ∧ ¬ (∃ x ∈ (d.line .a).found, x.cell = ⟨780, 3⟩) ∧ (d.line .a).found.length < 8
       ∧ (∀ i, ¬ ((d.entry i).state ≠ .free ∧ (d.entry i).cell = ⟨780, 3⟩)) ∧ (d.entry 0).state = .free ∧ d.meas.lock = none)
    ∧ (let d := holding (slotOf .search .a) .active 1 none ((listed 2 ⟨512, 17⟩ cold).onLine .a fun r => { r with
         state := .searching, found := List.replicate 8 ⟨⟨780, 3⟩, none, false, 64, 8, 5, 0, none⟩ })
       8 ≤ (d.line .a).found.length ∧ ¬ (∃ x ∈ (d.line .a).found, x.cell = ⟨512, 17⟩))
    ∧ (let d := holding (slotOf .search .a) .active 1 none ((listed 2 ⟨512, 17⟩ cold).onLine .a fun r => { r with
         state := .searching })
       (d.entry 2).state ≠ .free ∧ (d.entry 2).cell = ⟨512, 17⟩ ∧ ¬ ∃ x ∈ (d.line .a).found, x.cell = ⟨512, 17⟩)
    ∧ (let d := inState .a .searching (cold.onMeas fun m => { m with
         entries := m.entries.map fun _ => { Entry.free with state := .listed, own := ⟨true, false⟩ } })
       (∀ i, ¬ ((d.entry i).state ≠ .free ∧ (d.entry i).cell = ⟨512, 17⟩)) ∧ ∀ i, (d.entry i).state ≠ .free)
    ∧ (let d := serving .camped
       d.servingCell .a = some ⟨512, 17⟩ ∧ d.servingCell .a ≠ some ⟨780, 3⟩ ∧ d.moveRec .a = none
       ∧ (d.line .a).servingBarred = false ∧ d.reselecting .a = false ∧ (d.line .a).cycle = some 128
       ∧ min (d.params .a).requestedCycle 64 = 64 ∧ bestCandidate .a none d = none
       ∧ (d.onLine .a fun r => { r with servingBarred := true }).servingCell .a = some ⟨512, 17⟩)
    ∧ (let d := inState .a .camped rounding
       d.servingCell .a = some ⟨512, 17⟩ ∧ bestCandidate .a none d = some (5, -380)) := by
  decide +kernel

/-! #### Paging -/

/-- Line A Camped with a valid identity of value 5 in its entry 1. -/
def paged : Device :=
  (serving .camped).onPaging .a fun p =>
    { p with state := .watching, primary := some 1
             identities := p.identities.upd 1 fun _ => ⟨5, .temporary, true⟩ }

/-- A PAGE frame. -/
def pageFrame (line : BitVec 2) (c : Cell) (rs : List PageRecord) : LinkFrame :=
  ⟨.page, line, 0, 0, [], { cell := some c, frameNo := some 9, records := some rs }⟩

theorem witness_PagesFollowTheTable :
    (signal 1 {}).fields.cell = none
    ∧ (let f := pageFrame 1 ⟨512, 17⟩ (List.replicate 9 ⟨5, .call⟩)
       f.fields.records = some (List.replicate 9 ⟨5, .call⟩) ∧ 8 < (List.replicate 9 (PageRecord.mk 5 .call)).length)
    ∧ (let f := pageFrame 1 ⟨512, 17⟩ [⟨5, .call⟩]
       f.fields.cell = some ⟨512, 17⟩ ∧ f.fields.frameNo = some 9 ∧ f.fields.records = some [⟨5, .call⟩]
       ∧ [PageRecord.mk 5 .call] ≠ [] ∧ [PageRecord.mk 5 .call].length ≤ 8 ∧ LineId.ofField f.line = some .a)
    ∧ LineId.ofField (pageFrame 0 ⟨512, 17⟩ []).line = none
    ∧ paged.servingCell .a = some ⟨512, 17⟩ ∧ paged.servingCell .a ≠ some ⟨512, 18⟩ ∧ paged.lineState .a = .camped
    ∧ (paged.page .a).state ≠ .off ∧ (serving .connected).servingCell .a = some ⟨512, 17⟩
    ∧ (serving .connected).lineState .a ≠ .camped
    ∧ (PageRecord.mk 5 (.other 6)).domain = .other 6
    ∧ (∀ i, ((cold.page .a).identities.get i).valid = false)
    ∧ (((paged.page .a).identities.get 1).valid = true ∧ ((paged.page .a).identities.get 1).value = (5 : BitVec 32)
       ∧ ((paged.page .a).identities.get 0).valid = false)
    ∧ (paged.page .a).recent = []
    ∧ (let d := paged.onPaging .a fun p => { p with recent := [⟨5, .call, .cross, 256⟩] }
       ⟨5, .call, .cross, 256⟩ ∈ (d.page .a).recent ∧ 0 < 256)
    ∧ paged.carriesCall LineId.a.other = false
    ∧ (inState .b .connected paged).carriesCall LineId.a.other = true := by
  decide +kernel

theorem witness_PageAnswersAndRecentPages :
    (let d := holding 3 .active 1 none paged
     slotState d (slotOf .access .a) = .active ∧ (d.line .a).hold = [] ∧ d.modem.deviceLane.length < 8
     ∧ 8 ≤ (d.onModem fun m => { m with deviceLane := List.replicate 8 laneFrame }).modem.deviceLane.length)
    ∧ 4 ≤ ((holdingFrames 4 paged).line .a).hold.length
    ∧ (slotState (holdingFrames 3 paged) (slotOf .access .a) = .idle ∧ ((holdingFrames 3 paged).line .a).hold.length < 4)
    ∧ slotState (waiting 3 paged) (slotOf .access .a) ≠ .idle
    ∧ ((paged.page .a).recent.filter fun y => 0 < y.left).length < 4
    ∧ (let y (n : Nat) : RecentPage := ⟨n, .call, .cross, n⟩
       let d := paged.onPaging .a fun p => { p with recent := [y 9, y 3, y 3, y 7] }
       let live := (d.page .a).recent.filter fun y => 0 < y.left
       4 ≤ live.length ∧ live = [y 9] ++ y 3 :: [y 3, y 7] ∧ (∀ z ∈ live, (y 3).left ≤ z.left)
       ∧ ∀ z ∈ [y 9], (y 3).left < z.left) := by
  decide +kernel

/-! #### Texts -/

/-- A TEXT-PART. -/
def textFrame (line : BitVec 2) (total part : Nat) (bytes : List Byte) : LinkFrame :=
  signal line { mtype := .textPart, sender := some 700, total := some total, part := some part, text := some bytes }

/-- Line A Camped with an Assembly Record of three parts, of which the first is held. -/
def assembling : Device :=
  (serving .camped).onText fun t =>
    { t with
      recs := t.recs.upd 7 fun _ => some ⟨.collecting, .a, 700, 3, [(1, 0)], 1500, some 0⟩, order := [7]
      pool := t.pool.upd 0 fun _ => some ⟨7, [1, 2]⟩ }

/-- The same part with no free slot. -/
def poolFull : Device := assembling.onText fun t => { t with pool := t.pool.map fun _ => some ⟨7, []⟩ }

theorem witness_TextPartsAreTakenAndAnswered :
    (signal 1 {}).fields.sender = none
    ∧ (let f := textFrame 1 3 2 [7]
       f.fields.sender = some 700 ∧ f.fields.total = some 3 ∧ f.fields.part = some 2 ∧ f.fields.text = some [7]
       ∧ LineId.ofField f.line = some .a)
    ∧ LineId.ofField (textFrame 0 3 2 [7]).line = none
    ∧ cold.lineState .a = .off ∧ assembling.lineState .a = .camped
    ∧ (List.replicate 160 (0 : Byte)).length = 160
    ∧ findText .a 700 assembling.text = some 7 ∧ assembling.text? 7 = some ⟨.collecting, .a, 700, 3, [(1, 0)], 1500, some 0⟩
    ∧ (1 ∈ [((1 : Nat), (0 : Fin 48))].map Prod.fst) ∧ (2 ∉ [((1 : Nat), (0 : Fin 48))].map Prod.fst)
    ∧ assembling.freeSlots.head? = some 1 ∧ poolFull.freeSlots = [] ∧ findText .a 700 poolFull.text = some 7
    ∧ findText .a 700 (serving .camped).text = none ∧ (serving .camped).text? 0 = none
    ∧ (serving .camped).freeSlots.head? = some 0
    ∧ (let d := (serving .camped).onText fun t => { t with
         recs := t.recs.map fun _ => some ⟨.collecting, .b, 1, 3, [], 0, none⟩ }
       findText .a 700 d.text = none ∧ ∀ r, d.text? r ≠ none) := by
  decide +kernel

theorem witness_TextsAreDelivered :
    (∀ r ∈ cold.text.order, cold.text? r = none)
    ∧ (let d := assembling.onText fun t => { t with
         recs := t.recs.upd 2 fun _ => some ⟨.complete, .a, 701, 1, [(1, 0)], 0, none⟩, order := [7, 2] }
       d.text.order = [7] ++ 2 :: [] ∧ d.text.order.Nodup ∧ (∀ z, d.text? 7 = some z → z.state ≠ .complete)
       ∧ d.text? 2 = some ⟨.complete, .a, 701, 1, [(1, 0)], 0, none⟩
       ∧ (deliverWhole 2 ⟨.complete, .a, 701, 1, [(1, 0)], 0, none⟩ d).2 = true
       ∧ (deliverWhole 2 ⟨.complete, .a, 701, 1, [(1, 0)], 0, none⟩
         (d.onHost fun h => { h with queue := List.replicate 48 urgent })).2 = false)
    ∧ (assembling.inReset = false ∧ assembling.text? 7 = some ⟨.collecting, .a, 700, 3, [(1, 0)], 1500, some 0⟩
       ∧ assembling.host.queue.length < 48)
    ∧ (∀ y ∈ List.replicate 48 urgent, y.cls = .urgent) ∧ 48 ≤ (List.replicate 48 urgent).length := by
  refine ⟨by decide +kernel, ⟨by decide +kernel, by decide +kernel, fun z h => ?_, by decide +kernel⟩, by decide +kernel⟩
  obtain rfl : ⟨.collecting, .a, 700, 3, [(1, 0)], 1500, some 0⟩ = z := Option.some.inj h
  decide

/-! #### Calls -/

/-- A call message of the network or the host. -/
def callFrame (t : MsgType) (ref : Nat) : LinkFrame := signal 1 { mtype := t, callRef := some ref, cause := some .normal }

theorem witness_NetworkCallMessages :
    (let d := inCall 0 (record .active 9)
     LineId.ofField (callFrame .callOffer 127).line = some .a ∧ (callFrame .callOffer 127).fields.callRef = some 127
     ∧ (127 : Nat) ≤ 127 ∧ d.lineState .a = .connected ∧ d.carriesCall LineId.a.other = false
     ∧ d.modem.deviceLane.length < 8
     ∧ findCall .a 9 d = some 0 ∧ findCall .a 127 d = none ∧ callsOf .a d ≠ [] ∧ d.call 1 = none ∧ d.call 0 ≠ none
     ∧ d.call 0 = some (record .active 9))
    ∧ (let d := (serving .connected).onCalls fun c => { c with recs := c.recs.map fun _ => some (record .held 1) }
       findCall .a 127 d = none ∧ ∀ k, d.call k ≠ none)
    ∧ MsgType.isNetworkCall .callAlert = true ∧ (callFrame .callClear 127).fields.cause ≠ none
    ∧ (∀ s ∈ [CallState.offered, .requested, .alerting, .active, .held, .clearing],
       (inCall 1 (record s 127)).call 1 = some (record s 127) ∧ findCall .a 127 (inCall 1 (record s 127)) = some 1)
    ∧ (let d := (inCall 1 (record .requested 127)).onCall 0 fun _ => some (record .active 5)
       d.call 0 = some (record .active 5) ∧ findCall .a 127 d = some 1)
    ∧ (let d := (inCall 1 (record .held 127)).onCall 0 fun _ => some (record .active 5)
       d.call 0 = some (record .active 5) ∧ findCall .a 127 d = some 1)
    ∧ (∀ o ∈ [Origin.network, .host],
       let r : CallRec := { record .clearing 127 with clearing := some (.normal, o) }
       let d := (inCall 1 r).onCall 0 fun _ => some (record .active 5)
       d.call 1 = some r ∧ r.clearing = some (.normal, o) ∧ (0 : Fin 4) ≠ 1 ∧ d.call 0 = some (record .active 5)
       ∧ findCall .a 127 d = some 1)
    ∧ LineId.ofField (signal 0 {}).line = none ∧ LineId.ofField (signal 1 {}).line ≠ none ∧ (signal 1 {}).fields.callRef = none
    ∧ ((callFrame .callAlert 128).fields.callRef = some 128 ∧ 127 < 128)
    ∧ (∀ s ∈ [LineState.off, .searching, .lost, .stopping, .camped, .moving], (inState .a s cold).lineState .a = s)
    ∧ (let d := inState .b .moving (serving .camped)
       d.lineState .a = .camped ∧ d.carriesCall LineId.a.other = true) := by
  decide +kernel

theorem witness_CallGuardsClearAndFree :
    (let d := inCall 3 (record .offered 0)
     d.inReset = false ∧ d.call 3 = some (record .offered 0) ∧ (record .offered 0).guard = .running 0
     ∧ d.modem.deviceLane.length < 8)
    ∧ (inCall 0 (record .requested 5)).call 0 = some (record .requested 5)
    ∧ (inCall 0 (record .alerting 5)).call 0 = some (record .alerting 5)
    ∧ (let r : CallRec := { record .clearing 5 with clearing := some (.normal, .network) }
       let d := (inCall 0 r).onCall 1 fun _ => some (record .active 6)
       d.inReset = false ∧ d.call 0 = some r ∧ r.state = .clearing ∧ r.guard = .running 0 ∧ r.clearing = some (.normal, .network)
       ∧ (1 : Fin 4) ≠ 0 ∧ d.call 1 = some (record .active 6) ∧ (record .active 6).line = r.line
       ∧ d.modem.deviceLane.length < 8) := by
  decide +kernel

theorem witness_HostCallMessages :
    (signal 1 {}).fields.callRef = none
    ∧ ((callFrame .callAnswer 128).fields.callRef = some 128 ∧ 127 < 128)
    ∧ (let f := signal 1 { mtype := .callClear, callRef := some 127 }
       f.fields.mtype = .callClear ∧ f.fields.cause = none)
    ∧ (∀ m, (callFrame m 127).fields.callRef = some 127 ∧ (callFrame m 127).fields.mtype = m
       ∧ (callFrame m 127).fields.cause = some .normal)
    ∧ (∀ s ∈ [LineState.off, .searching, .lost, .stopping], (inState .a s cold).lineState .a = s
       ∧ findCall .a 127 (inState .a s cold) = none)
    ∧ (let d := inState .b .connected (serving .camped)
       d.lineState .a = .camped ∧ d.carriesCall LineId.a.other = true)
    ∧ (let d := inCall 0 (record .active 5)
       d.lineState .a = .connected ∧ d.carriesCall LineId.a.other = false ∧ findCall .a 127 d = none ∧ d.call 1 = none
       ∧ d.call 0 ≠ none ∧ callsOf .a d ≠ [])
    ∧ (let d := (serving .connected).onCalls fun c => { c with recs := c.recs.map fun _ => some (record .held 1) }
       findCall .a 127 d = none ∧ ∀ k, d.call k ≠ none)
    ∧ (∀ s ∈ [CallState.offered, .requested, .alerting, .active, .held, .clearing],
       (inCall 1 (record s 127)).call 1 = some (record s 127) ∧ findCall .a 127 (inCall 1 (record s 127)) = some 1
       ∧ (inCall 1 (record s 127)).lineState .a = .connected)
    ∧ (let d := (inCall 1 (record .offered 127)).onCall 0 fun _ => some (record .active 5)
       d.call 0 = some (record .active 5) ∧ d.call 1 = some (record .offered 127) ∧ findCall .a 127 d = some 1
       ∧ d.modem.deviceLane.length < 8
       ∧ 8 ≤ (d.onModem fun m => { m with deviceLane := List.replicate 8 laneFrame }).modem.deviceLane.length)
    ∧ (let d := (inCall 1 (record .clearing 127)).onCall 0 fun _ => some (record .active 5)
       d.call 1 = some (record .clearing 127) ∧ findCall .a 127 d = some 1 ∧ (0 : Fin 4) ≠ 1
       ∧ d.call 0 = some (record .active 5) ∧ (record .active 5).line = .a) := by
  refine ⟨by decide +kernel, by decide +kernel, by decide +kernel, fun m => ⟨rfl, rfl, rfl⟩, by decide +kernel,
    by decide +kernel, by decide +kernel, by decide +kernel, by decide +kernel, by decide +kernel, by decide +kernel⟩

theorem witness_CallsTakeAndFreeTheLine :
    (let f := callFrame .callOffer 127
     LineId.ofField f.line = some .a ∧ f.fields.callRef = some 127 ∧ (127 : Nat) ≤ 127 ∧ f.fields.mtype = .callOffer
     ∧ (callFrame .callRequest 127).fields.mtype = .callRequest)
    ∧ (let d := holdingFrames 3 (serving .camped)
       d.lineState .a = .camped ∧ d.carriesCall LineId.a.other = false ∧ (∀ k, d.call k = none) ∧ d.moveRec .a = none
       ∧ ((d.onMove .a fun m => { m with record := some (moving .tuning 9) }).moveRec .a).map MoveRec.kind = some .reselect)
    ∧ (∀ o ∈ [Origin.network, .host], ∀ s ∈ [LineState.connected, .stopping, .moving],
       let r : CallRec := { record .clearing 127 with clearing := some (.normal, o) }
       let d := inState .a s (inCall 3 r)
       findCall .a 127 d = some 3 ∧ d.call 3 = some r ∧ r.state = .clearing ∧ r.clearing = some (.normal, o)
       ∧ (∀ j, j ≠ 3 → d.call j = none) ∧ d.lineState .a = s ∧ d.moveRec .a = none ∧ (d.line .a).serving.isSome = true
       ∧ (d.line .a).servingBarred = false ∧ bestCandidate .a none d = none
       ∧ (d.onLine .a fun r => { r with servingBarred := true }).lineState .a = s
       ∧ r.releasePending = none ∧ r.guard = .running 0 ∧ d.inReset = false)
    ∧ (let d := (rounding.onCall 3 fun _ => some { record .clearing 127 with clearing := some (.normal, .host) }).onLine .a
         fun r => { r with servingBarred := true }
       d.lineState .a = .connected ∧ (d.line .a).servingBarred = true ∧ bestCandidate .a none d = some (5, -380))
    ∧ ((callFrame .callClear 127).fields.cause ≠ none ∧ Origin.host ≠ .network)
    ∧ (let r : CallRec := { record .clearing 127 with releasePending := some .done }
       r.releasePending = some .done) := by
  decide +kernel

/-- A VOICE frame of a line. -/
def voiceFrame (line : BitVec 2) (ref : Nat) : LinkFrame :=
  ⟨.voice, line, 0, 0, [], { callRef := some ref, seq := some 4, voice := some [1] }⟩

theorem witness_VoiceGate :
    (signal 1 {}).fields.callRef = none
    ∧ (let f := voiceFrame 1 9
       f.fields.callRef ≠ none ∧ f.fields.seq ≠ none ∧ f.fields.voice = some [1] ∧ LineId.ofField f.line = some .a
       ∧ f.fields.callRef = some 9)
    ∧ LineId.ofField (voiceFrame 0 9).line = none
    ∧ findCall .a 9 cold = none
    ∧ (let d := inCall 2 (record .active 9)
       findCall .a 9 d = some 2 ∧ d.call 2 = some (record .active 9) ∧ slotState d (slotOf .traffic .a) ≠ .active
       ∧ slotState (holding 1 .active 1 none d) (slotOf .traffic .a) = .active)
    ∧ (inState .a .moving (inCall 2 (record .active 9))).lineState .a = .moving
    ∧ (let d := inCall 2 (record .held 9)
       findCall .a 9 d = some 2 ∧ d.call 2 = some (record .held 9)) := by
  decide +kernel

/-! #### Measurement -/

theorem witness_MeasurementSetAndFilter :
    (6 : Nat) ≤ 6 ∧ (-6080 : Int) ≤ -380 * 16 ∧ (-380 : Int) * 16 ≤ -6080 ∧ (-6074 : Int) ≤ -366 * 16 ∧ (-560 : Int) * 16 ≤ -6074 := by
  decide

/-- A SAMPLE of a cell. -/
def sampleFrame (line : BitVec 2) (c : Cell) (detected : Bool) : LinkFrame :=
  ⟨.sample, line, 0, 0, [],
    { cell := some c, frameNo := some 9, detected := some detected, level := some (-700), quality := some 40 }⟩

theorem witness_SamplesReachTheirEntry :
    (signal 1 {}).fields.cell = none
    ∧ (let f := sampleFrame 1 ⟨600, 8⟩ true
       f.fields.cell = some ⟨600, 8⟩ ∧ f.fields.frameNo = some 9 ∧ f.fields.detected = some true ∧ f.fields.level = some (-700)
       ∧ f.fields.quality = some 40 ∧ LineId.ofField f.line = some .a)
    ∧ LineId.ofField (sampleFrame 0 ⟨600, 8⟩ true).line = none
    ∧ cold.lineState .a = .off ∧ rounding.lineState .a ≠ .off
    ∧ (∀ i, ¬ ((rounding.entry i).state ≠ .free ∧ (rounding.entry i).cell = ⟨700, 8⟩))
    ∧ ((rounding.entry 5).state ≠ .free ∧ (rounding.entry 5).cell = ⟨600, 8⟩)
    ∧ (∀ j, j < 5 → ¬ ((rounding.entry j).state ≠ .free ∧ (rounding.entry j).cell = ⟨600, 8⟩))
    ∧ ((rounding.measLine .a).round = some [(2, false), (5, false)] ∧ (rounding.measLine .b).round = none)
    ∧ (rounding.entry 5).state ≠ .barred ∧ rounding.meas.lock = none
    ∧ ((rounding.onEntry 5 fun e => { e with state := .barred }).entry 5).state = .barred
    ∧ (rounding.onMeas fun m => { m with lock := some ⟨5, 40, none⟩ }).meas.lock = some ⟨5, 40, none⟩
    ∧ (rounding.entry 5).state = .measured ∧ (rounding.entry 5).filter = some (-6080)
    ∧ ((listed 5 ⟨600, 8⟩ cold).entry 5).state = .listed
    ∧ ((listed 5 ⟨600, 8⟩ cold).params .a).penaltyTime ≠ 0
    ∧ (((listed 5 ⟨600, 8⟩ cold).onLine .a fun r => { r with params := { r.params with penaltyTime := 0 } }).params .a).penaltyTime = 0
    ∧ (cold.entry 0).state = .free := by
  decide +kernel

/-- Entry 5 is Triggered for Line A. -/
def triggered : Device :=
  rounding.onEntry 5 fun e => { e with trig := ⟨⟨3, true, 0⟩, ⟨0, false, 0⟩⟩ }

theorem witness_TriggersAndReports :
    ((rounding.entry 5).state = .measured ∧ (rounding.entry 5).level = some (-380) ∧ (-384 : Int) + 3 < -380 + 0
      ∧ (-380 : Int) + 0 < -376 - 3 ∧ (-377 : Int) - 3 ≤ -380 + 0 ∧ (-380 : Int) + 0 ≤ -383 + 3
      ∧ ((triggered.entry 5).trig.get .a).triggered = true ∧ ((rounding.entry 5).trig.get .a).triggered = false)
    ∧ (cold.entry 5).state ≠ .measured
    ∧ ((5 : Fin 24) ≠ 2 ∧ (triggered.entry 5).own.get .a = true ∧ ¬ ((triggered.entry 6).own.get .a = true))
    ∧ ((triggered.entry 5).level ≠ none ∧ (triggered.params .a).reportInterval = 4 ∧ (triggered.line .a).overrides = none
       ∧ (triggered.measLine .a).roundsSince = 0 ∧ (triggered.measLine .a).reportsSent < (triggered.params .a).reportAmount)
    ∧ (let d := triggered.onMeasLine .a fun m => { m with roundsSince := 3 }
       4 ≤ min ((d.measLine .a).roundsSince + 1) 60)
    ∧ (let d := triggered.onMeasLine .a fun m => { m with reportsSent := 4 }
       (d.params .a).reportAmount ≤ (d.measLine .a).reportsSent)
    ∧ ¬ (∃ i, (rounding.entry i).own.get .a = true ∧ ((rounding.entry i).trig.get .a).triggered = true)
    ∧ triggered.modem.deviceLane.length < 8
    ∧ 8 ≤ (triggered.onModem fun m => { m with deviceLane := List.replicate 8 laneFrame }).modem.deviceLane.length
    ∧ (signal 1 {}).fields.hys = none
    ∧ (let f := signal 1 { hys := some 61, ttt := some 0, interval := some 60, amount := some 9 }
       f.fields.hys = some 61 ∧ f.fields.ttt = some 0 ∧ f.fields.interval = some 60 ∧ f.fields.amount = some 9
       ∧ LineId.ofField f.line = some .a)
    ∧ LineId.ofField (signal 0 {}).line = none
    ∧ (∀ s ∈ [LineState.off, .searching, .camped, .connected, .moving, .lost, .stopping], (inState .a s cold).lineState .a = s) := by
  decide +kernel

theorem witness_RoundsAndRanking :
    ((rounding.measLine .a).round = some [(2, false), (5, false)] ∧ ∃ x ∈ [((2 : Fin 24), false), (5, false)], x.2 = false)
    ∧ (let d := rounding.onMeasLine .a fun m => { m with round := some [(2, true), (5, true)] }
       (d.measLine .a).round = some [(2, true), (5, true)] ∧ (∀ x ∈ [((2 : Fin 24), true), (5, true)], x.2 = true)
       ∧ d.lineState .a = .connected ∧ (d.line .a).serving = some 2 ∧ (d.entry 2).state = .measured
       ∧ (d.entry 2).level = some (-400)
       ∧ (d.onEntry 2 fun e => { e with state := .listed }).entry 2 ≠ d.entry 2
       ∧ ((d.onEntry 2 fun e => { e with state := .listed }).entry 2).state ≠ .measured
       ∧ (inState .a .moving d).lineState .a = .moving ∧ (inState .a .camped d).lineState .a = .camped
       ∧ (inState .a .camped d).reselecting .a = false
       ∧ ((inState .a .camped d).onMove .a fun m => { m with record := some (moving .tuning 9) }).reselecting .a = true)
    ∧ bestCandidate .a none rounding = some (5, -380) ∧ ((rounding.line .a).qhyst.getD 0 : Int) + -400 < -380
    ∧ (let d := rounding.onEntry 5 fun e => { e with level := some (-395) }
       bestCandidate .a none d = some (5, -395) ∧ (-395 : Int) ≤ (d.line .a).qhyst.getD 0 + -400)
    ∧ (min (((rounding.entry 5).trig.get .a).run + 1) 15 < (rounding.params .a).tresel
       ∧ (rounding.line .a).campedRounds < 4)
    ∧ (let d := (rounding.onEntry 5 fun e => { e with trig := ⟨⟨0, false, 2⟩, ⟨0, false, 0⟩⟩ }).onLine .a fun r =>
         { r with campedRounds := 4 }
       (d.params .a).tresel ≤ min (((d.entry 5).trig.get .a).run + 1) 15 ∧ 4 ≤ (d.line .a).campedRounds
       ∧ bestCandidate .a none d = some (5, -380))
    ∧ (let d := holding 7 .active 1 none (inState .a .camped rounding)
       (d.line .a).serving = some 2 ∧ d.arb.holder = some ⟨7, .active, .whenDone, 9, 4, none, 1, false⟩
       ∧ slotState d (slotOf .move .a) = .idle) := by
  decide +kernel

/-- The host fields of a new cell of Line A. -/
def newFields : HostFields := ⟨⟨600, 8⟩, true, false, 0, 0, 0, true, true⟩

/-- A parked sample of a cell. -/
def parkedAt (c : Cell) : Parked := ⟨c, .a, 9, true, -380, 9⟩

theorem witness_NeighbourWritesAndTheLock :
    Listening cold ∧ cold.host.queue.length + 3 ≤ 48 ∧ (∀ l, (cold.measLine l).round = none)
    ∧ (let two : List HostFields := [newFields, { newFields with cell := ⟨601, 8⟩ }]
       22 + two.length ≤ 24 ∧ two ≠ [] ∧ neighbourFault 22 two cold = none ∧ 24 < 23 + two.length
       ∧ neighbourFault 22 [newFields, newFields] cold = some .duplicate
       ∧ neighbourFault 22 [newFields, { newFields with ownA := false }] cold = none
       ∧ neighbourFault 22 [newFields, { newFields with ocnB := 97 }] cold = some .range
       ∧ neighbourFault 1 two ((serving .camped).onEntry 2 fun e => { e with servingFor := ⟨true, false⟩ }) = some .serving)
    ∧ (cold.meas.lock = none ∧ (head 4 23).target.toNat = 4 ∧ (head 4 23).index.toNat = (23 : Fin 24).val
       ∧ neighbourFault (23 : Fin 24).val [newFields] cold = none
       ∧ neighbourFault (23 : Fin 24).val [{ newFields with qoff := 97 }] cold = some .range
       ∧ neighbourFault (23 : Fin 24).val [newFields] (listed 0 ⟨600, 8⟩ cold) = some .duplicate
       ∧ neighbourFault (2 : Fin 24).val [newFields] (serving .camped) = none
       ∧ neighbourFault (2 : Fin 24).val [newFields]
         ((serving .camped).onEntry 2 fun e => { e with servingFor := ⟨true, false⟩ }) = some .serving)
    ∧ ((newFields.ownA = true) ∧ (Entry.free).state = .free ∧ newFields.cell ≠ ⟨512, 17⟩
       ∧ ¬ ({ newFields with ownA := false }.ownA = true ∨ { newFields with ownA := false }.ownB = true)
       ∧ ((listed 5 ⟨600, 8⟩ cold).entry 5).state ≠ .free ∧ newFields.cell = ((listed 5 ⟨600, 8⟩ cold).entry 5).cell)
    ∧ (head 0 23).target = 0 ∧ (head 4 23).target ≠ 0
    ∧ (∀ p ∈ [none, some (parkedAt ⟨600, 8⟩), some (parkedAt ⟨601, 8⟩)],
       let d := cold.onMeas fun m => { m with lock := some ⟨23, 50, p⟩ }
       d.meas.lock = some ⟨23, 50, p⟩ ∧ neighbourFault (23 : Fin 24).val [newFields] d = none
       ∧ neighbourFault (23 : Fin 24).val [{ newFields with qoff := 97 }] d = some .range)
    ∧ (parkedAt ⟨600, 8⟩).cell = newFields.cell ∧ (parkedAt ⟨601, 8⟩).cell ≠ newFields.cell
    ∧ (let d := cold.onMeas fun m => { m with lock := some ⟨7, 0, some (parkedAt ⟨0, 0⟩)⟩ }
       d.meas.lock = some ⟨7, 0, some (parkedAt ⟨0, 0⟩)⟩ ∧ (7 : Fin 24) ≠ 23 ∧ (Lock.mk 7 0 none).left = 0 ∧ d.inReset = false
       ∧ (parkedAt ⟨0, 0⟩).cell = (d.entry 7).cell ∧ (parkedAt ⟨600, 8⟩).cell ≠ (d.entry 7).cell) :=
  ⟨cold_listening, by decide, fun l => by cases l <;> rfl, by decide +kernel⟩

/-- Line A Camped in a round of its serving entry and entry 5, of which a write of entry 5 leaves the first unmarked. -/
theorem witness_NeighbourWritesAndTheLock_round :
    let d := (listed 5 ⟨600, 8⟩ (serving .camped)).onMeasLine .a fun m => { m with round := some [(2, false), (5, true)] }
    Commandable d ∧ (d.measLine .a).round = some [(2, false), (5, true)] ∧ (d.measLine .b).round = none ∧ measSet .a d = [2, 5]
    ∧ neighbourFault 5 [{ newFields with inIdle := false }] d = none ∧ (2 : Nat) < 5 ∧ (2 : Fin 24) ≠ 5 :=
  ⟨⟨⟨rfl, rfl, rfl, rfl⟩, rfl, by decide⟩, by decide +kernel⟩

theorem witness_NeighbourWritesAndTheLock_listening :
    Listening (cold.onMeas fun m => { m with lock := some ⟨23, 50, none⟩ }) := ⟨rfl, rfl, rfl, rfl⟩

/-! #### Moves -/

/-- A MOVE-ORDER. -/
def moveOrder (line : BitVec 2) (c : Cell) : LinkFrame :=
  signal line { mtype := .moveOrder, cell := some c, deadline := some 9 }

/-- Every entry is Measured for Line A; entry 23 has the lowest level, or the only one. -/
def tableFull (level : Option Int) : Device :=
  cold.onMeas fun m => { m with
    entries := Tab.upd (m.entries.map fun _ =>
      { Entry.free with own := ⟨true, false⟩, state := .measured, level := level }) 23 fun e => { e with level := some (-500) } }

theorem witness_MoveOrdersAreTaken :
    (let d := serving .connected
     (d.entry 2).state ≠ .free ∧ (d.entry 2).cell = ⟨512, 17⟩ ∧ (∀ j, j < 2 → (d.entry j).state = .free)
     ∧ (d.entry 2).state ≠ .barred ∧ ((d.onEntry 2 fun e => { e with state := .barred }).entry 2).state = .barred
     ∧ (∀ j, ¬ ((d.entry j).state ≠ .free ∧ (d.entry j).cell = ⟨600, 8⟩)) ∧ (d.entry 0).state = .free ∧ d.meas.lock = none)
    ∧ (let d := tableFull none
       (∀ j, ¬ ((d.entry j).state ≠ .free ∧ (d.entry j).cell = ⟨600, 8⟩)) ∧ (∀ j, (d.entry j).state ≠ .free)
       ∧ d.meas.lock = none ∧ (d.entry 0).servingFor = ⟨false, false⟩ ∧ d.moveRec LineId.a.other = none
       ∧ (d.entry 0).level = none)
    ∧ (let d := tableFull (some (-400))
       (∀ j, (d.entry j).state ≠ .free) ∧ (d.entry 23).level = some (-500)
       ∧ ∀ j, (d.entry j).level = some (-400) ∨ (d.entry j).level = some (-500))
    ∧ (let d := (tableFull none).onMeasLine .a fun m => { m with round := some [(2, false), (0, true)] }
       (d.measLine .a).round = some [(2, false), (0, true)] ∧ (2 : Fin 24) ≠ 0 ∧ (d.measLine .b).round = none)
    ∧ (signal 1 {}).fields.cell = none
    ∧ ((moveOrder 1 ⟨600, 8⟩).fields.cell = some ⟨600, 8⟩ ∧ (moveOrder 1 ⟨600, 8⟩).fields.deadline = some 9
       ∧ LineId.ofField (moveOrder 0 ⟨600, 8⟩).line = none ∧ LineId.ofField (moveOrder 1 ⟨600, 8⟩).line = some .a)
    ∧ (serving .camped).lineState .a ≠ .connected ∧ (serving .connected).servingCell .a = some ⟨512, 17⟩
    ∧ (let d := holding 7 .active 1 none (serving .connected)
       d.lineState .a = .connected ∧ (d.line .a).serving = some 2 ∧ (d.entry 2).cell ≠ ⟨600, 8⟩
       ∧ d.arb.holder = some ⟨7, .active, .whenDone, 9, 4, none, 1, false⟩ ∧ slotState d (slotOf .move .a) = .idle
       ∧ (allocTarget .a ⟨600, 8⟩ d).isSome = true) := by
  decide +kernel

/-- Line A with a move record whose MOVE slot holds the radio. -/
def moveHeld (m : MoveRec) (count : Nat) : Device :=
  holding 0 .active count none ((serving .camped).onMove .a fun x => { x with record := some m })

/-- A CELL-INFO of the target. -/
def targetInfo (barred : Bool) : LinkFrame :=
  signal 1 { mtype := .cellInfo, cell := some ⟨600, 8⟩, frameNo := some 9, barred := some barred, cycle := some 64
             qhyst := some 8 }

theorem witness_MoveWindowsFollowOn :
    cold.moveRec .a = none
    ∧ (∀ p ∈ [MovePhase.waitingGrant, .tuning, .confirming, .fallback],
       (moveHeld (moving p 9) 0).moveRec .a = some (moving p 9) ∧ (moving p 9).phase = p)
    ∧ (let d := moveHeld (moving .tuning 0) 40
       d.inReset = false ∧ d.arb.holder = some ⟨0, .active, .whenDone, 9, 4, none, 40, false⟩ ∧ (0 : Fin 13) = slotOf .move .a
       ∧ (moving .tuning 0).deadline = 0)
    ∧ ((moveHeld (moving .confirming 44) 256).arb.holder = some ⟨0, .active, .whenDone, 9, 4, none, 256, false⟩
       ∧ (moving .confirming 44).extended = false ∧ 0 < (moving .confirming 44).deadline)
    ∧ ({ moving .tuning 9 with barredAtReady := true } : MoveRec).barredAtReady = true
    ∧ (let f := targetInfo true
       let m := moving .tuning 9
       let d := moveHeld m 0
       LineId.ofField f.line = some .a ∧ m.kind = .reselect ∧ d.lineState .a = .camped ∧ d.servingCell .a ≠ some m.target
       ∧ f.fields.cell = some m.target ∧ f.fields.frameNo = some 9 ∧ f.fields.barred = some true
       ∧ f.fields.cycle = some 64 ∧ f.fields.qhyst = some 8) := by
  decide +kernel

/-- Line A in a move from its serving entry 2 to entry 5, whose cell the line owns, with its MOVE slot holding the radio. -/
def inMove (m : MoveRec) (s : LineState) : Device :=
  let d := (listed 5 ⟨600, 8⟩ (serving s)).onEntry 2 fun e => { e with servingFor := ⟨true, false⟩ }
  let r := d.onMeasLine .a fun x => { x with round := some [(2, false), (5, true)] }
  holding 0 .active 40 none (r.onMove .a fun x => { x with record := some m })

/-- Its record. -/
def moveOf (k : MoveKind) (phase : MovePhase) (deadline : Nat) (c : Option FallbackCause) : MoveRec :=
  { moving phase deadline with kind := k, fallbackCause := c }

theorem inMove_cellsFit (m : MoveRec) (s : LineState) : (inMove m s).CellsFit :=
  ⟨(by decide +kernel : ∀ i, ((inMove (moving .tuning 0) .camped).entry i).state = .free ↔
      ((inMove (moving .tuning 0) .camped).entry i).unowned = true),
    (by decide +kernel : ∀ i j, ((inMove (moving .tuning 0) .camped).entry i).state ≠ .free →
      ((inMove (moving .tuning 0) .camped).entry j).state ≠ .free →
      ((inMove (moving .tuning 0) .camped).entry i).cell = ((inMove (moving .tuning 0) .camped).entry j).cell → i = j)⟩

theorem inMove_measured (m : MoveRec) (k : MoveKind) : 2 ∈ measSet .a (inMove m (if k = .handover then .moving else .camped)) := by
  cases k
  · exact (by decide +kernel : 2 ∈ measSet .a (inMove (moving .tuning 0) .moving))
  · exact (by decide +kernel : 2 ∈ measSet .a (inMove (moving .tuning 0) .camped))

theorem inMove_linesFit (k : MoveKind) (p : MovePhase) (n : Nat) (c : Option FallbackCause) :
    (inMove (moveOf k p n c) (if k = .handover then .moving else .camped)).LinesFit where
  serving l := by cases l <;> cases k <;> rfl
  marks l i := by
    have a : ∀ i, (((inMove (moving .tuning 0) .camped).entry i).servingFor.a = (some (2 : Fin 24) == some i)) := by decide +kernel
    have b : ∀ i, (((inMove (moving .tuning 0) .camped).entry i).servingFor.b = ((none : Option (Fin 24)) == some i)) := by
      decide +kernel
    cases l
    · exact a i
    · exact b i
  owned l i h := by
    cases l
    · obtain rfl : 2 = i := Option.some.inj h
      exact ⟨rfl, rfl⟩
    · exact nomatch h
  single h := by cases k <;> exact nomatch h.2
  move l m h := by
    cases l
    · obtain rfl : moveOf k p n c = m := Option.some.inj h
      exact ⟨by cases k <;> rfl, rfl⟩
    · exact nomatch h
  moving l h := by
    cases l
    · rfl
    · exact nomatch h

theorem witness_MovesHaveTheirOutcome : ∀ (k : MoveKind) (p : MovePhase) (n : Nat) (c : Option FallbackCause),
    let m := moveOf k p n c
    let d := inMove m (if k = .handover then .moving else .camped)
    d.LinesFit ∧ d.CellsFit ∧ d.inReset = false ∧ d.moveRec .a = some m
    ∧ d.arb.holder = some ⟨0, .active, .whenDone, 9, 4, none, 40, false⟩ ∧ (0 : Fin 13) = slotOf .move .a
    ∧ HoldPhase.active ≠ .granted ∧ (d.line .a).deferredStop = false ∧ (d.line .a).servingBarred = false
    ∧ d.host.queue.length + 24 ≤ 48 ∧ d.modem.deviceLane.length < 8
    ∧ (m.kind = k ∧ m.phase = p ∧ m.fallbackCause = c ∧ m.deadline = n)
    ∧ ((d.entry m.targetEntry).cell = m.target ∧ (d.entry m.targetEntry).own.get .a = true
      ∧ (d.entry m.targetEntry).state.live = true)
    ∧ m.targetEntry ≠ m.oldEntry
    ∧ ((d.measLine .a).round = some [(2, false), (5, true)] ∧ (d.measLine .b).round = none ∧ 2 ≠ m.targetEntry ∧ 2 ∈ measSet .a d)
    ∧ (⟨700, 8⟩ : Cell) ≠ m.target
    ∧ (⟨700, 8⟩ : Cell) ≠ m.oldCell
    ∧ LineId.ofField (targetInfo false).line = some .a ∧ (targetInfo false).fields.cell = some m.target
    ∧ (targetInfo false).fields.barred = some false :=
  fun k p n c => ⟨inMove_linesFit k p n c, inMove_cellsFit _ _, rfl, rfl, rfl, rfl, by decide, rfl, rfl, (by decide : (0 : Nat) + 24 ≤ 48),
    (by decide : (0 : Nat) < 8), ⟨rfl, rfl, rfl, rfl⟩, ⟨rfl, rfl, rfl⟩, by simp [moveOf, moving],
    ⟨rfl, rfl, by simp [moveOf, moving], inMove_measured _ k⟩,
    by simp [moveOf, moving], by simp [moveOf, moving], rfl, rfl, rfl⟩

/-- A handover whose line has a record, with or without release pending, and with or without a deferred stop. -/
theorem witness_MovesHaveTheirOutcome_calls : ∀ (p : MovePhase) (c : Option FallbackCause) (e : Option CallNoticeCause) (b : Bool),
    let d := ((inMove (moveOf .handover p 0 c) .moving).onCall 1 fun _ =>
      some { record .held 9 with releasePending := e, guard := .frozen 8 }).onLine .a fun r => { r with deferredStop := b }
    d.LinesFit ∧ d.CellsFit ∧ d.moveRec .a = some (moveOf .handover p 0 c)
    ∧ d.call 1 = some { record .held 9 with releasePending := e, guard := .frozen 8 } ∧ (d.line .a).deferredStop = b :=
  fun p c e b =>
    have h := inMove_linesFit .handover p 0 c
    have k := inMove_cellsFit (moveOf .handover p 0 c) .moving
    ⟨⟨fun l => by cases l <;> [exact h.serving .a; exact h.serving .b], fun l i => by
        cases l <;> [exact h.marks .a i; exact h.marks .b i],
      fun l i => by cases l <;> [exact h.owned .a i; exact h.owned .b i], h.single,
      fun l m => by cases l <;> [exact h.move .a m; exact h.move .b m],
      fun l => by cases l <;> [exact h.moving .a; exact h.moving .b]⟩, ⟨k.owners, k.unique⟩, rfl, rfl, rfl⟩

/-! #### Sleep -/

theorem witness_SleepAndWake :
    Commandable cold ∧ (head 0 0).target = 0 ∧ (head 0 0).index = 0
    ∧ ((∀ f ∈ cold.host.queue, f.isSleepOffer = true) ∧ (∀ l ∈ [LineId.a, .b], cold.lineState l = .off)
       ∧ (∀ k, cold.call k = none) ∧ slotState cold 12 = .idle)
    ∧ ¬ (∀ f ∈ (withQueue [queued]).host.queue, f.isSleepOffer = true)
    ∧ (let d := cold.onSleep fun s => { s with idle := some 0 }
       d.inReset = false ∧ d.sleep.idle = some 0 ∧ d.host.queue.length < 48)
    ∧ (let d := (power .asleep).onSleep fun s => { s with guard := some 0, reasons := [.text] }
       d.sleep.power = .asleep ∧ d.sleep.guard = some 0 ∧ d.sleep.reasons ≠ [])
    ∧ (let d := (power .asleep).onSleep fun s => { s with guard := some 0 }
       d.sleep.power = .asleep ∧ d.sleep.guard = some 0 ∧ d.sleep.reasons = [])
    ∧ (let d := (power .asleep).onSleep fun s => { s with maxSleep := some 0 }
       d.sleep.power = .asleep ∧ d.sleep.guard = none ∧ d.sleep.maxSleep = some 0 ∧ .timer ∉ d.sleep.reasons)
    ∧ ((power .asleep).onSleep fun s => { s with guard := some 5 }).sleep.guard ≠ none
    ∧ (let d := (power .waking).onSleep fun s => { s with response := some 0, repulses := 1 }
       d.sleep.response = some 0 ∧ d.sleep.repulses + 1 < 3)
    ∧ (let d := (power .waking).onSleep fun s => { s with response := some 0, repulses := 2 }
       d.sleep.power = .waking ∧ d.sleep.response = some 0 ∧ d.sleep.repulses = 2 ∧ (d.cond .f5).action = .report) :=
  ⟨cold_commandable, by decide +kernel⟩

theorem witness_SleepAndWake_joins :
    (let d := power .asleep
     d.sleep.power = .asleep ∧ d.host.queue.length < 48 ∧ (d.cond .f1).on = false ∧ (d.cond .f2).on = false
     ∧ d.sleep.guard = none ∧ d.sleep.settings.enables.forwarded = true ∧ urgent.cls = .urgent ∧ bulk.cls ≠ .urgent
     ∧ ¬ d.sleep.settings.watermark ≤ d.host.queue.length + 1)
    ∧ (let d := (withQueue (List.replicate 47 queued)).onSleep fun s => { s with power := .waking }
       d.sleep.power = .waking ∧ d.host.queue.length < 48 ∧ d.sleep.settings.watermark ≤ d.host.queue.length + 1)
    ∧ ((power .asleep).onSleep fun s => { s with guard := some 5 }).sleep.guard ≠ none := by
  decide +kernel

theorem witness_SleepAndWake_commandable : Commandable (withQueue [queued]) := ⟨⟨rfl, rfl, rfl, rfl⟩, rfl, by decide⟩

/-! #### Commands -/

theorem witness_IdentifyAnswers : Commandable cold ∧ Listening cold ∧ (head 0 0).target = 0 ∧ (head 0 0).index = 0 :=
  ⟨cold_commandable, cold_listening, rfl, rfl⟩

theorem witness_ReadsReportTheState :
    Listening cold ∧ cold.host.queue.length + 2 ≤ 48 ∧ cold.meas.lock = none ∧ (head 8 0).index = 0
    ∧ (∀ t : BitVec 4, (head (t.setWidth 8) 0).target = t.setWidth 8) ∧ cold.sleep.settings.idleDelay ≠ 0
    ∧ (let d := cold.onMeas fun m => { m with lock := some ⟨3, 40, none⟩ }
       d.meas.lock = some ⟨3, 40, none⟩ ∧ (Lock.mk 3 40 none).parked = none
       ∧ ((d.onCond .w7 fun r => { r with on := true }).cond .w7).on = true)
    ∧ (∀ t ∈ [(1 : Byte), 2, 3, 4, 5, 6, 7, 8, 9, 10, 11, 12],
       1 ≤ (head t 0).target.toNat ∧ (head t 0).target.toNat ≤ 12 ∧ ¬ ((1 : Nat) = 0 ∨ 1 < (head t 0).index.toNat + 1)
       ∧ 64 < (head t 64).index.toNat + 1)
    ∧ (∀ t ∈ [(0 : Byte), 13], ¬ (1 ≤ (head t 0).target.toNat ∧ (head t 0).target.toNat ≤ 12))
    ∧ (head 7 0).target = 7 ∧ (head 0 0).target = 0
    ∧ (∀ p ∈ [Power.awake, .offered, .asleep, .waking], (power p).sleep.power = p) ∧ cold.disp.walking = none :=
  ⟨cold_listening, by decide +kernel⟩

theorem witness_ReadsReportTheState_walking :
    let d := walkingOn (signal 1 { mtype := .cellInfo }) .asleep cold
    Listening d ∧ d.disp.walking = some ⟨signal 1 { mtype := .cellInfo }, .asleep⟩ ∧ d.host.queue.length + 2 ≤ 48
    ∧ d.meas.lock = none ∧ (head 2 0).target = 2
    ∧ (walkFrame .down .asleep (signal 1 { mtype := .cellInfo }) (hostAccepted 0 cold)).host.queue.length < 48 :=
  ⟨⟨rfl, rfl, rfl, rfl⟩, by decide +kernel⟩

theorem witness_ReadsReportTheState_listening (p : Power) :
    Listening (power p) ∧ Listening (cold.onMeas fun m => { m with lock := some ⟨3, 40, none⟩ }) :=
  ⟨⟨rfl, rfl, rfl, rfl⟩, rfl, rfl, rfl, rfl⟩

theorem witness_SettingWritesTakeEffect :
    Commandable cold ∧ (head 5 0).target.toNat = 5 ∧ (head 5 0).index = 0 ∧ (head 7 0).target.toNat = 7
    ∧ ((head 10 2).target.toNat = identityTable .b ∧ (head 10 2).index.toNat + 2 = 4)
    ∧ cold.lineState .b = .off ∧ Commandable (inState .b .lost cold) ∧ (inState .b .lost cold).lineState .b ≠ .off
    ∧ ((head 12 25).target.toNat = parameterTable .b ∧ (head 12 25).index.toNat + 2 = 27
       ∧ paramInRange 25 (.num 255) ∧ paramInRange 26 (.num 400) ∧ ¬ paramInRange 26 (.num 401))
    ∧ ((head 11 10).index.toNat = 10 ∧ paramInRange 10 (.mode .interval) ∧ paramInRange 12 (.num 64) ∧ (serving .camped).lineState .a = .camped
       ∧ (serving .camped).reselecting .a = false ∧ ((serving .camped).line .a).cycle = some 128)
    ∧ ((head 3 6).target.toNat = 3 ∧ (head 3 6).index.toNat + 2 = 8)
    ∧ (holding 4 .active 0 none cold).arb.holder = some ⟨4, .active, .whenDone, 9, 4, none, 0, false⟩
    ∧ (∀ j, ((holding 4 .active 0 none cold).slot j).want ≠ .deferred)
    ∧ (head 8 13).target.toNat = 8 ∧ (head 8 13).index.toNat = Cond.f5.index.val :=
  ⟨cold_commandable, by decide, by decide, by decide, by decide, rfl, inState_commandable _ _, by decide,
    ⟨by decide, by decide, by simp [paramInRange], by simp [paramInRange], by simp [paramInRange]⟩,
    ⟨by decide, trivial, by simp [paramInRange], by decide +kernel⟩, by decide +kernel⟩

/-- Writes of two items with their last at the table's end, and one that fails whole by its second item (R176). -/
theorem test_writes_of_two_items :
    (let t := after (.lineParametersWrite .b (head 12 25) (.fits [.num 255, .num 400])) cold
     (t.params .b).barTime = 255 ∧ (t.params .b).reselectDeadline = 400 ∧ (t.params .a).barTime = 30)
    ∧ (let t := after (.lineParametersWrite .b (head 12 25) (.fits [.num 255, .num 401])) cold
       t.lines = cold.lines)
    ∧ (let t := after (.classTableWrite (head 3 6) (.fits [.cls 2 (some .onRequest) true, .settings (some .rotating) 7])) cold
       t.arb.classes.get 6 = ⟨2, .onRequest, true⟩ ∧ t.arb.mode = .rotating ∧ t.arb.code = 7) := by
  decide +kernel

/-- R47: LINK-RESTART withdraws a SEARCH window that outlived a stop, and discards its found list. -/
theorem test_restart_discards_found :
    let d := holding 5 .active 1 none (cold.onLine .a fun r =>
      { r with staleSearch := true, found := [⟨⟨512, 17⟩, none, false, 128, 8, 9, 9, some (-380)⟩] })
    ((after (.linkRestart 3) d).line .a).found = [] ∧ ((after (.linkRestart 3) d).line .a).staleSearch = false := by
  decide +kernel

theorem witness_SettingWritesTakeEffect_commandable :
    Commandable (holding 4 .active 0 none cold) ∧ Commandable (serving .camped) :=
  ⟨⟨⟨rfl, rfl, rfl, rfl⟩, rfl, by decide⟩, ⟨⟨rfl, rfl, rfl, rfl⟩, rfl, by decide⟩⟩

theorem witness_PortParametersActAtOnce :
    (let d := cold.onModem fun m => { m with intake := List.replicate 9 (signal 1 {}), pausing := some 5 }
     let p : PortParams := ⟨32, 9, 65535⟩
     Commandable d ∧ (head 6 0).target.toNat = 6 ∧ (head 6 0).index = 0
     ∧ (1 ≤ p.pauseOn ∧ p.pauseOn ≤ 32 ∧ p.pauseOff ≤ 31 ∧ p.pauseOff < p.pauseOn ∧ 1 ≤ p.pauseTime ∧ p.pauseTime ≤ 65535)
     ∧ d.modem.deviceLane.length < 8 ∧ d.modem.pausing ≠ none ∧ d.modem.intake.length ≤ p.pauseOff)
    ∧ (let d := cold.onModem fun m => { m with intake := [signal 1 {}], deviceLane := List.replicate 8 laneFrame }
       let p : PortParams := ⟨1, 0, 1⟩
       Commandable d ∧ (1 ≤ p.pauseOn ∧ p.pauseOff < p.pauseOn ∧ 1 ≤ p.pauseTime)
       ∧ d.modem.pausing = none ∧ p.pauseOn ≤ d.modem.intake.length ∧ ¬ d.modem.deviceLane.length < 8)
    ∧ (∀ p ∈ [PortParams.mk 0 0 20, ⟨33, 8, 20⟩, ⟨32, 32, 20⟩, ⟨8, 8, 20⟩, ⟨8, 7, 0⟩, ⟨8, 7, 65536⟩],
       ¬ (1 ≤ p.pauseOn ∧ p.pauseOn ≤ 32 ∧ p.pauseOff ≤ 31 ∧ p.pauseOff < p.pauseOn ∧ 1 ≤ p.pauseTime ∧ p.pauseTime ≤ 65535))
    ∧ Commandable cold :=
  ⟨⟨⟨⟨rfl, rfl, rfl, rfl⟩, rfl, by decide⟩, by decide +kernel⟩, ⟨⟨⟨rfl, rfl, rfl, rfl⟩, rfl, by decide⟩, by decide +kernel⟩,
   by decide, cold_commandable⟩

theorem witness_BorrowForcePauseAndUnknown :
    Commandable cold ∧ (head 0 0).target = 0 ∧ (head 0 0).index = 0
    ∧ (let d := holding 4 .active 0 none cold
       Commandable d ∧ slotState d 12 = .idle ∧ d.arb.holder = some ⟨4, .active, .whenDone, 9, 4, none, 0, false⟩)
    ∧ (let d := holding 12 .active 0 none cold
       Commandable d ∧ slotState d 12 ≠ .idle)
    ∧ cold.modem.deviceLane.length < 8
    ∧ (let d := cold.onModem fun m => { m with deviceLane := List.replicate 8 laneFrame }
       Commandable d ∧ 8 ≤ d.modem.deviceLane.length) :=
  ⟨cold_commandable, rfl, rfl, ⟨⟨⟨rfl, rfl, rfl, rfl⟩, rfl, by decide⟩, by decide +kernel⟩,
   ⟨⟨⟨rfl, rfl, rfl, rfl⟩, rfl, by decide⟩, by decide +kernel⟩, by decide,
   ⟨⟨⟨rfl, rfl, rfl, rfl⟩, rfl, by decide⟩, by decide⟩⟩

end Sys2Proof.Tests
end

section
/-! SUPPORT. What every command shares on the host's side: the part takes it at once, its arrival and its REPLY touch the
Host Port and the Sleep Controller alone, and the host is up afterwards (R165, R169, R173, R174). -/

namespace Sys2Proof.Machine

/-! ### Frames that join the Host-bound Queue (R16) -/

/-- A frame that joins leaves the others in their order. -/
theorem sublist_insertFrame (f : HostFrame) (q : List HostFrame) : q.Sublist (insertFrame f q) := by
  unfold insertFrame
  split
  · calc q.Sublist q := .refl q
      _ = q.takeWhile HostFrame.isReply ++ q.dropWhile HostFrame.isReply := List.takeWhile_append_dropWhile.symm
      List.Sublist _ (q.takeWhile HostFrame.isReply ++ [f] ++ q.dropWhile HostFrame.isReply) :=
        (List.sublist_append_left _ _).append (.refl _)
  · exact List.sublist_append_left _ _

/-- What a join can do: the frame stands in the queue, the idle condition may break, and the Sleep Controller is told. -/
theorem joinQueue_cases (f : HostFrame) (q : List HostFrame) (d : Device) :
    ∃ seq, ∃ t, t = (d.onHost fun h => { h with queue := insertFrame (stamped f d.host.seq) q, seq := seq })
      ∧ (joinQueue f q d = wakeReport (stamped f d.host.seq) t
        ∨ joinQueue f q d = wakeReport (stamped f d.host.seq) (idleBreaks t)) := by
  refine ⟨match f.payload with
    | .notice _ => d.host.seq + 1
    | _ => d.host.seq, _, rfl, ?_⟩
  by_cases h : (idleCond d && !idleCond (d.onHost fun h =>
      { h with
        queue := insertFrame (stamped f d.host.seq) q
        seq := match f.payload with
          | .notice _ => h.seq + 1
          | _ => h.seq })) = true
  · exact .inr (congrArg (wakeReport _) (if_pos h))
  · exact .inl (congrArg (wakeReport _) (if_neg h))

/-- A joining frame changes the queue and the sequence number of the Host Port alone. -/
theorem joinQueue_samePort (f : HostFrame) (q : List HostFrame) (d : Device) : SamePort d (joinQueue f q d) := by
  obtain ⟨seq, t, rfl, join | join⟩ := joinQueue_cases f q d
  all_goals constructor <;> simp [join]

theorem sameBlocks_of_sansHost {d t : Device} (h : t.sansHost = d.sansHost) : SameBlocks d t :=
  ⟨inReset_of_sansHost h, lastReset_of_sansHost h, modem_of_sansHost h, disp_of_sansHost h, lines_of_sansHost h,
    arb_of_sansHost h, paging_of_sansHost h, text_of_sansHost h, calls_of_sansHost h, meas_of_sansHost h, move_of_sansHost h⟩

theorem sansHost_of_sameBlocks {d t : Device} (h : SameBlocks d t) : t.sansHost = d.sansHost := by
  obtain ⟨h1, h2, h3, h4, h5, h6, h7, h8, h9, h10, h11⟩ := h
  simp only [Device.sansHost, h1, h2, h3, h4, h5, h6, h7, h8, h9, h10, h11]

theorem SamePort.trans {d t u : Device} (h : SamePort d t) (k : SamePort t u) : SamePort d u :=
  ⟨k.voice.trans h.voice, k.pauseTimer.trans h.pauseTimer, k.sending.trans h.sending, k.outCount.trans h.outCount,
    k.lastError.trans h.lastError, k.input.trans h.input, k.link.trans h.link⟩

theorem OnlyReplied.trans {d t u : Device} (h : OnlyReplied d t) (k : OnlyReplied t u) : OnlyReplied d u :=
  ⟨sameBlocks_of_sansHost ((sansHost_of_sameBlocks k.blocks).trans (sansHost_of_sameBlocks h.blocks)),
    h.port.trans k.port, k.conds.trans h.conds, h.queue.trans k.queue⟩

/-- A change of the Sleep Controller alone is none of what `OnlyReplied` fixes. -/
theorem onlyReplied_onSleep (f : SleepRec → SleepRec) (d : Device) : OnlyReplied d (d.onSleep f) :=
  ⟨sameBlocks_of_sansHost rfl, ⟨rfl, rfl, rfl, rfl, rfl, rfl, rfl⟩, rfl, .refl _⟩

/-- So is a change of the last Link Count. -/
theorem onlyReplied_lastCount (c : Option Half) (d : Device) : OnlyReplied d (d.onHost fun h => { h with lastCount := c }) :=
  ⟨sameBlocks_of_sansHost rfl, ⟨rfl, rfl, rfl, rfl, rfl, rfl, rfl⟩, rfl, .refl _⟩

/-- The same change of the Modem Port on both sides is no effect beside. -/
theorem OnlyReplied.onModem {d t : Device} (h : OnlyReplied d t) (f : ModemPort → ModemPort) :
    OnlyReplied (d.onModem f) (t.onModem f) := by
  obtain ⟨⟨h1, h2, h3, h4, h5, h6, h7, h8, h9, h10, h11⟩, hport, hconds, hqueue⟩ := h
  exact ⟨⟨h1, h2, congrArg f h3, h4, h5, h6, h7, h8, h9, h10, h11⟩, { hport with }, hconds, hqueue⟩

/-! ### A host that is up (R165) -/

/-- The host is Awake or Offered. -/
def SleepRec.Up (s : SleepRec) : Prop := s.power = .awake ∨ s.power = .offered

/-- The host is up afterwards, and nothing but its power and its idle timer has changed. -/
structure SleepRec.StaysUp (s t : SleepRec) : Prop where
  up : t.Up
  rest : t = { s with power := t.power, idle := t.idle }

theorem SleepRec.StaysUp.refl {s : SleepRec} (h : s.Up) : s.StaysUp s := ⟨h, rfl⟩

theorem SleepRec.StaysUp.trans {s t u : SleepRec} (h : s.StaysUp t) (k : t.StaysUp u) : s.StaysUp u :=
  ⟨k.up, by rw [k.rest, h.rest]⟩

theorem idleBreaks_staysUp {d : Device} (h : d.sleep.Up) : d.sleep.StaysUp (idleBreaks d).sleep := by
  unfold idleBreaks
  split
  case h_1 hp => exact ⟨.inl hp, rfl⟩
  case h_2 => exact ⟨.inl rfl, rfl⟩
  case h_3 => exact .refl h

/-- A host that is up is not woken by a frame. -/
theorem wakeReport_of_up {d : Device} (h : d.sleep.Up) (f : HostFrame) : wakeReport f d = d := by
  rcases h with h | h <;> simp [wakeReport, h]

theorem joinQueue_staysUp {d : Device} (h : d.sleep.Up) (f : HostFrame) (q : List HostFrame) :
    d.sleep.StaysUp (joinQueue f q d).sleep := by
  obtain ⟨seq, t, ht, join⟩ := joinQueue_cases f q d
  have same : t.sleep = d.sleep := by rw [ht, Device.onHost_sleep]
  rw [← same] at h ⊢
  rcases join with join | join
  · rw [join, wakeReport_of_up h]
    exact .refl h
  · have breaks := idleBreaks_staysUp h
    rw [join, wakeReport_of_up breaks.up]
    exact breaks

/-! ### A frame joins, at most, while the host is up -/

/-- At most one frame has joined the Host-bound Queue, for a host that is up. -/
structure OneJoins (d t : Device) : Prop extends OnlyReplied d t where
  length : t.host.queue.length ≤ d.host.queue.length + 1
  sleep : d.sleep.StaysUp t.sleep

/-- With room, an offer to a host that is up lets the frame join and changes nothing else (R16, R17). -/
theorem offer_oneJoins {f : HostFrame} {d : Device} (room : d.host.queue.length < 48) (hf : f.cls ≠ .bulk) (h : d.sleep.Up) :
    OneJoins d (offer f d).1 := by
  rw [offer_of_room room (.inl hf)]
  exact
    { blocks := sameBlocks_of_sansHost (joinQueue_sansHost f _ d)
      port := joinQueue_samePort f _ d
      conds := joinQueue_conds f _ d
      queue := by rw [joinQueue_queue]; exact sublist_insertFrame _ _
      length := by simp
      sleep := joinQueue_staysUp h f _ }

/-- With room, the start of the idle timer sets it, or brings one SLEEP-OFFER (R165). -/
theorem startIdle_oneJoins {d : Device} (room : d.host.queue.length < 48) (h : d.sleep.Up) : OneJoins d (startIdle d) := by
  have same (f : SleepRec → SleepRec) (hf : d.sleep.StaysUp (f d.sleep)) : OneJoins d (d.onSleep f) :=
    ⟨onlyReplied_onSleep f d, Nat.le_succ _, hf⟩
  unfold startIdle
  split
  · split
    · have stopsTimer := same (fun s => { s with idle := none, power := .offered }) ⟨.inr rfl, rfl⟩
      have offers := offer_oneJoins (d := d.onSleep fun s => { s with idle := none, power := .offered }) room
        (f := noticeFrame none 0 (.sleepOffer d.sleep.settings.guardCode d.sleep.settings.maxSleep d.sleep.settings.enables))
        nofun (.inr rfl)
      exact ⟨stopsTimer.toOnlyReplied.trans offers.toOnlyReplied, offers.length, stopsTimer.sleep.trans offers.sleep⟩
    · exact same _ ⟨h, rfl⟩
  · exact same id (.refl h)

theorem restartIdle_oneJoins {d : Device} (room : d.host.queue.length < 48) (h : d.sleep.Up) : OneJoins d (restartIdle d) := by
  unfold restartIdle
  split
  · exact startIdle_oneJoins room h
  · exact ⟨onlyReplied_onSleep id d, Nat.le_succ _, .refl h⟩

/-! ### The arrival of a command (R165, R169) -/

/-- What an arrival makes of the Sleep Controller, before the idle timer restarts. -/
def SleepRec.arrived (s : SleepRec) : SleepRec :=
  match s.power with
  | .awake => { s with entry := .clear }
  | .offered => { s with power := .awake }
  | .asleep | .waking =>
    { s with
      power := .awake, wake := false, repulse := none, guard := none, maxSleep := none, response := none
      lastSleep := some ⟨s.reasons, s.repulses, min s.asleepMs 65535000⟩, reasons := [], repulses := 0
      settings := if s.settings.exitClears then
          { s.settings with enables := ⟨false, false, false, false, false, false⟩ }
        else s.settings }

theorem hostArrival_eq (d : Device) : hostArrival d = restartIdle (d.onSleep SleepRec.arrived) := by
  cases h : d.sleep.power <;> simp [hostArrival, exitSleep, Device.onSleep, SleepRec.arrived, h]

theorem arrived_up (s : SleepRec) : s.arrived.Up := by
  unfold SleepRec.arrived
  split
  case h_1 h => exact .inl h
  all_goals exact .inl rfl

/-- What follows an arrival, for a host that is up, is the arrival's effect still. -/
theorem arrived_of_staysUp {d t : Device} (h : d.sleep.arrived.StaysUp t.sleep) : Arrived d t where
  power := h.up
  stay := by
    rintro (hp | hp) <;> rw [h.rest] <;> simp [SleepRec.arrived, hp]
  ends := by
    rintro (hp | hp) <;> rw [h.rest] <;> simp [SleepRec.arrived, hp]

/-- What the arrival of a frame from the host leaves unchanged. -/
theorem hostAccepted_effect {d : Device} (room : d.host.queue.length < 48) (count : Half) :
    OnlyReplied d (hostAccepted count d) ∧ (hostAccepted count d).host.queue.length ≤ d.host.queue.length + 1
    ∧ d.sleep.arrived.StaysUp (hostAccepted count d).sleep := by
  unfold hostAccepted
  rw [hostArrival_eq]
  have idle := restartIdle_oneJoins room (d := (d.onHost fun h => { h with lastCount := some count }).onSleep .arrived)
    (arrived_up d.sleep)
  exact ⟨((onlyReplied_lastCount _ d).trans (onlyReplied_onSleep _ _)).trans idle.toOnlyReplied, idle.length, idle.sleep⟩

/-! ### A command and its REPLY (R173, R174) -/

/-- A frame of the host link is taken in at once. -/
theorem arrive_of_listening {d : Device} (h : Listening d) (i : Instr) : arrive i d = receive i d := by
  simp [arrive, linkBlocked, h.input, h.write, h.link]

/-- With no lock to split, a command is its arrival and its execution. -/
theorem takeCommand_of_unlocked {d : Device} (unlocked : d.meas.lock = none) (h : CmdHead)
    (run : Option Lock → Device → Device) : takeCommand h run d = run none (hostAccepted h.linkCount d) := by
  simp [takeCommand, splitFirst, unlocked]

/-- A REPLY is an Urgent frame, which Quiet does not keep out (R18). -/
theorem replyFrame_cls_ne_bulk (tag n : Byte) (o : ReplyOutcome) : (replyFrame tag n o).cls ≠ .bulk := nofun

/-- The REPLY of a command stands in the queue, and with its arrival it is all that the command does beside `e`. -/
theorem reply_answers {e x : Device} (before : OnlyReplied e x) (sleep : e.sleep.arrived.StaysUp x.sleep)
    (room : x.host.queue.length < 48) (h : CmdHead) (n : Byte) (o : ReplyOutcome) :
    OnlyAnswered e (reply h n o x) ∧ Replied h n o (reply h n o x) := by
  have joins := offer_oneJoins room (f := replyFrame h.tag n o) (replyFrame_cls_ne_bulk _ _ _) sleep.up
  have mem : replyFrame h.tag n o ∈ (reply h n o x).host.queue := by
    rw [reply, offer_of_room room (.inl (replyFrame_cls_ne_bulk _ _ _)), joinQueue_queue]
    exact (mem_insertFrame _ _ _).mpr (.inl rfl)
  exact ⟨⟨before.trans joins.toOnlyReplied, arrived_of_staysUp (sleep.trans joins.sleep)⟩, 0, mem⟩

end Sys2Proof.Machine
end

section
/-! The pause state under new port parameters (R6, R8, R9): PORT_PARAMETERS_WRITE acts at once (O59). -/

namespace Sys2Proof.Machine

/-! ### The pause state (R8, R9, R13) -/

/-- The Device lane after a frame is offered to it: a full lane loses the frame (R13). -/
def deviceLaneWith (f : ModemFrame) (lane : List ModemFrame) : List ModemFrame :=
  if lane.length < 8 then lane ++ [f] else lane

theorem placeDevice_eq (f : ModemFrame) (d : Device) :
    (placeDevice f d).1 = d.onModem fun m => { m with deviceLane := deviceLaneWith f m.deviceLane } := by
  unfold placeDevice deviceLaneFree deviceLaneWith Device.onModem Config.deviceLaneCap
  by_cases h : d.modem.deviceLane.length < 8 <;> simp [h]

theorem stopPausing_eq (d : Device) : stopPausing d = d.onModem fun m =>
    { m with pausing := none, deviceLane := deviceLaneWith ⟨0, 0, 0, .pause 0⟩ m.deviceLane } := by
  rw [stopPausing, placePause, placeDevice_eq]
  rfl

theorem startPausing_eq (d : Device) : startPausing d = d.onModem fun m =>
    { m with
      pausing := some (10 * m.params.pauseTime)
      deviceLane := deviceLaneWith ⟨0, 0, 0, .pause (BitVec.ofNat 16 m.params.pauseTime)⟩ m.deviceLane } := by
  rw [startPausing, placePause, placeDevice_eq]
  rfl

/-- The Modem Port after its pause state has been tested against the fill (R8, R9). -/
def ModemPort.tested (m : ModemPort) : ModemPort :=
  if m.pausing ≠ none ∧ m.intake.length ≤ m.params.pauseOff then
    { m with pausing := none, deviceLane := deviceLaneWith ⟨0, 0, 0, .pause 0⟩ m.deviceLane }
  else if m.pausing = none ∧ m.params.pauseOn ≤ m.intake.length then
    { m with
      pausing := some (10 * m.params.pauseTime)
      deviceLane := deviceLaneWith ⟨0, 0, 0, .pause (BitVec.ofNat 16 m.params.pauseTime)⟩ m.deviceLane }
  else m

/-- With pause-off below pause-on, at most one of the two tests acts: a pause that ends is not begun again. -/
theorem pauseTests_eq {d : Device} (h : d.modem.params.pauseOff < d.modem.params.pauseOn) :
    pauseOnTest (pauseOffTest d) = d.onModem ModemPort.tested := by
  unfold pauseOffTest
  split
  case isTrue off =>
    have notOn : ¬ d.modem.params.pauseOn ≤ d.modem.intake.length := by omega
    rw [stopPausing_eq]
    simp [pauseOnTest, notOn, Device.onModem, ModemPort.tested, off]
  case isFalse off =>
    unfold pauseOnTest
    split
    case isTrue on => rw [startPausing_eq]; simp [Device.onModem, ModemPort.tested, on]
    case isFalse on => simp only [Device.onModem, ModemPort.tested, off, on, if_false]

/-! ### PORT_PARAMETERS_WRITE (R6, R9) -/

/-- With no lock to split, the write is taken at once. -/
theorem exec_portParametersWrite {d : Device} (ready : Commandable d) (q : List Instr) (h : CmdHead)
    (body : Body (List PortParams)) : exec (.portParametersWrite h body) ⟨d, q⟩ =
      .next ⟨doPortParameters h body (hostAccepted h.linkCount d), q⟩ := by
  calc exec (.portParametersWrite h body) ⟨d, q⟩
      _ = live (arrive (.portParametersWrite h body)) ⟨d, q⟩ := rfl
      _ = .next ⟨arrive (.portParametersWrite h body) d, q⟩ := live_of_running _ q ready.running
      _ = .next ⟨takeCommand h (fun _ => doPortParameters h body) d, q⟩ := by
        rw [arrive_of_listening ready.toListening]; rfl
      _ = .next ⟨doPortParameters h body (hostAccepted h.linkCount d), q⟩ := by
        rw [takeCommand_of_unlocked ready.unlocked]

/-- A write of the one item of table 6: refused whole out of its ranges, and otherwise tested against the present fill. -/
theorem doPortParameters_item {h : CmdHead} (target : h.target.toNat = 6) (index : h.index = 0) (p : PortParams) (d : Device) :
    doPortParameters h (.fits [p]) d = if portsInRange p then
        reply h 2 .done (pauseOnTest (pauseOffTest (d.onModem fun m => { m with params := p })))
      else reply h 2 (.refused .range) d := by
  simp [doPortParameters, tableWrite, target, index, refuse]

/-- Within its ranges the write sets the parameters and tests the pause state: the only effect beside the REPLY. -/
theorem doPortParameters_inRange {h : CmdHead} (target : h.target.toNat = 6) (index : h.index = 0) {p : PortParams}
    (fits : portsInRange p = true) (d : Device) :
    doPortParameters h (.fits [p]) d = reply h 2 .done (d.onModem fun m => ModemPort.tested { m with params := p }) := by
  obtain ⟨-, -, -, below, -⟩ := of_decide_eq_true fits
  rw [doPortParameters_item target index, if_pos fits, pauseTests_eq below]
  rfl

/-- Settles O59: the arrival of the command leaves the Modem Port alone, so the two tests of R9 see the fill of this moment, and
at most one of them acts because pause-off is below pause-on. -/
theorem portParametersActAtOnce : Obligations.PortParametersActAtOnce := by
  intro d q h p ready target index fits laneWith
  have free := ready.room
  obtain ⟨arrival, length, sleep⟩ := hostAccepted_effect (by omega : d.host.queue.length < 48) h.linkCount
  have room : (hostAccepted h.linkCount d).host.queue.length < 48 := by omega
  have inRange : portsInRange p = true ↔ fits := decide_eq_true_iff
  constructor
  · intro hfits
    obtain ⟨only, replied⟩ :=
      reply_answers (arrival.onModem fun m => ModemPort.tested { m with params := p }) sleep room h 2 .done
    rw [← doPortParameters_inRange target index (inRange.mpr hfits)] at only replied
    have modem := only.blocks.modem
    refine ⟨_, exec_portParametersWrite ready q h _, replied, ?_, ?_⟩
    · rw [modem]
      exact only
    · rw [modem, Device.onModem_modem, ModemPort.tested]
      split
      · exact ⟨0, rfl⟩
      · split
        · exact ⟨0, rfl⟩
        · rfl
  · intro hfits
    obtain ⟨only, replied⟩ := reply_answers arrival sleep room h 2 (.refused .range)
    refine ⟨_, exec_portParametersWrite ready q h _, ?_⟩
    rw [doPortParameters_item target index, if_neg (mt inRange.mp hfits)]
    exact ⟨only, replied⟩

end Sys2Proof.Machine
end

section
/-! IDENTIFY and the reset it names (R175): the part's data stand in its REPLY, and the two resets set the last reset (O56). -/

namespace Sys2Proof.Machine

/-! ### IDENTIFY (R175) -/

/-- A command without a body that names Target 0 and Index 0 is executed (R174). -/
theorem plainCommand_of_zero {h : CmdHead} (target : h.target = 0) (index : h.index = 0) (n : Byte) (f : Device → Device)
    (d : Device) : plainCommand h n (.fits ()) f d = f d :=
  if_pos ⟨target, index⟩

/-- With no lock to split, Identify is its arrival and its REPLY. -/
theorem exec_identify {d : Device} (ready : Commandable d) (q : List Instr) {h : CmdHead} (target : h.target = 0)
    (index : h.index = 0) :
    exec (.identify h (.fits ())) ⟨d, q⟩ = .next ⟨doIdentify h (hostAccepted h.linkCount d), q⟩ := by
  calc exec (.identify h (.fits ())) ⟨d, q⟩
      _ = live (arrive (.identify h (.fits ()))) ⟨d, q⟩ := rfl
      _ = .next ⟨arrive (.identify h (.fits ())) d, q⟩ := live_of_running _ q ready.running
      _ = .next ⟨takeCommand h (fun _ => plainCommand h 1 (.fits ()) (doIdentify h)) d, q⟩ := by
        rw [arrive_of_listening ready.toListening]; rfl
      _ = .next ⟨doIdentify h (hostAccepted h.linkCount d), q⟩ := by
        rw [takeCommand_of_unlocked ready.unlocked, plainCommand_of_zero target index]

/-- The arrival of the command leaves the last reset alone, so the REPLY carries the one that stood before it. -/
theorem doIdentify_hostAccepted (h : CmdHead) (d : Device) : doIdentify h (hostAccepted h.linkCount d) =
    reply h 1 (.data (.identify 2240 1 [32, 48, 64, 24, 4, 8, 48, 13, 4, 4] d.lastReset)) (hostAccepted h.linkCount d) := by
  rw [doIdentify, hostAccepted_lastReset]
  rfl

/-! ### The last reset taken (R23, R178) -/

/-- The REPLY of a Warm Reset leaves its mark standing. -/
@[simp] theorem doWarmReset_lastReset (h : CmdHead) (d : Device) : (doWarmReset h d).lastReset = .warm := by
  rw [doWarmReset, reply_lastReset, Device.onSleep_lastReset]
  rfl

/-- A Warm Reset is taken at once, also where a lock stands: it ends a walk in progress and splits no lock (R173, R178). -/
theorem exec_warmReset {d : Device} (ready : Listening d) (q : List Instr) {h : CmdHead} (target : h.target = 0)
    (index : h.index = 0) : exec (.warmReset h (.fits ())) ⟨d, q⟩ =
      .next ⟨doWarmReset h (finishWalk (hostAccepted h.linkCount d)), q⟩ := by
  calc exec (.warmReset h (.fits ())) ⟨d, q⟩
      _ = live (arrive (.warmReset h (.fits ()))) ⟨d, q⟩ := rfl
      _ = .next ⟨arrive (.warmReset h (.fits ())) d, q⟩ := live_of_running _ q ready.running
      _ = .next ⟨takeWarmReset h (.fits ()) d, q⟩ := by rw [arrive_of_listening ready]; rfl
      _ = .next ⟨doWarmReset h (finishWalk (hostAccepted h.linkCount d)), q⟩ := by
        rw [takeWarmReset, plainCommand_of_zero target index]

/-- Settles O56: Identify is its arrival and one REPLY, for which the queue has room also after a SLEEP-OFFER, and each reset
writes the last reset that the REPLY carries. -/
theorem identifyAnswers : Obligations.IdentifyAnswers := by
  refine ⟨fun d q h ready target index => ?identify, fun s => ?cold, fun d q h ready target index => ?warm⟩
  case identify =>
    have free := ready.room
    obtain ⟨arrival, length, sleep⟩ := hostAccepted_effect (by omega : d.host.queue.length < 48) h.linkCount
    have room : (hostAccepted h.linkCount d).host.queue.length < 48 := by omega
    refine ⟨_, exec_identify ready q target index, ?_⟩
    rw [doIdentify_hostAccepted]
    exact reply_answers arrival sleep room h 1 _
  case cold => exact ⟨Device.reset, rfl, rfl⟩
  case warm => exact ⟨_, exec_warmReset ready q target index, doWarmReset_lastReset h _⟩

end Sys2Proof.Machine
end
